-- ==== Sys2Proof/Word.lean ====
section
/-! DEFINITION. The two word types of the 6502 (00_scope.md R3, R5): a byte is 8 bits, an address or
word is 16 bits. Everything computed from them stands in Decode.lean and in Machine/. -/

namespace Sys2Proof

/-- 8 bits: the data bus, A, X, Y, SP, a memory location (R3, R5). -/
abbrev Byte := BitVec 8

/-- 16 bits: the address bus and the program counter (R3, R5). -/
abbrev Word := BitVec 16

end Sys2Proof
end

