-- ==== Sys2Proof/Config.lean ====
section
/-! DEFINITION. What an implementation or a platform fixes (00_scope.md R3, R4), and the free values:
the values that the spec writes `draw_1()` and `draw_8()` (R6), which nothing in the model determines. -/

namespace Sys2Proof

namespace Config

/-- What a free value is drawn for. One constructor for each place of the spec that leaves a value
open, or where a read may reach an address whose content the platform chooses; so that two draws of
one step are never the same draw. -/
inductive Draw where
  /-- the opcode byte, where no memory answers the fetch (R32, R52) -/
  | opcode
  /-- the second instruction byte (R52) -/
  | operandLo
  /-- the third instruction byte (R52) -/
  | operandHi
  /-- the low byte of a pointer (R35, R69 to R71) -/
  | pointerLo
  /-- the high byte of a pointer -/
  | pointerHi
  /-- the operand byte at the effective address (R52) -/
  | data
  /-- the first byte an instruction pulls (R131) -/
  | pull1
  /-- the second byte an instruction pulls -/
  | pull2
  /-- the third byte an instruction pulls -/
  | pull3
  /-- the low byte of a vector (R171) -/
  | vectorLo
  /-- the high byte of a vector -/
  | vectorHi
  /-- A after a decimal ADC or SBC of invalid BCD (R102) -/
  | decimalA
  /-- C after a decimal ADC or SBC of invalid BCD (R102) -/
  | decimalC
  /-- N after any decimal ADC or SBC (R102) -/
  | decimalN
  /-- Z after any decimal ADC or SBC (R102) -/
  | decimalZ
  /-- V after any decimal ADC or SBC (R102) -/
  | decimalV
  /-- which I gates an IRQ right after CLI, SEI or PLP (R178) -/
  | gate
  /-- A after a RESET step (R29, R201); the next seven are the other values it leaves open -/
  | resetA
  | resetX
  | resetY
  | resetN
  | resetV
  | resetD
  | resetZ
  | resetC
  deriving DecidableEq, Repr

/-- `draw_8()` of R6: the byte drawn for a purpose in the step of a number. It has no body, so a
statement that holds, holds for every value. -/
opaque freeByte : Nat → Draw → Byte

/-- `draw_1()` of R6: the bit drawn for a purpose in the step of a number. -/
opaque freeBit : Nat → Draw → Bool

end Config

/-- The parameters of R4 that a rule reads. `IllegalOpcodePolicy` has the one value `fault` (R74),
`HaltPC` is an argument of `runUntil` (Safety.lean), `ClockHz` is read by no rule (R1). -/
structure Params where
  /-- ADC and SBC obey D (R101 to R103) -/
  decimalEnabled : Bool
  /-- BRK, IRQ, NMI and RESET clear D (R172, R200); the 65C02's behaviour -/
  clearDOnInterrupt : Bool
  /-- SP after RESET (R200) -/
  resetSP : Byte
  /-- JMP (ind) takes the high byte of its target from the page of the low byte (R69) -/
  jmpIndirectPageWrap : Bool
  deriving DecidableEq, Repr

/-- The middle column of R4's table: the NMOS 6502. -/
def Params.nmos : Params :=
  { decimalEnabled := true, clearDOnInterrupt := false, resetSP := 0xFD, jmpIndirectPageWrap := true }

/-- What an address range is (R32, R37, R41, U6). -/
inductive RegionKind where
  /-- holds what was last written -/
  | ram
  /-- reads as the memory holds it; a write is dropped (R32) -/
  | rom
  /-- device-owned memory: reads and writes as RAM, and the environment may change it between two
  instructions (R8 kind 5, R43, R187) -/
  | deviceMemory
  /-- a device register: a read answers a byte of the platform's choosing, a write goes to the device
  (R32, R186) -/
  | deviceRegister
  /-- nothing: a read answers `draw_8()`, a write is dropped (R32, D18) -/
  | unmapped
  deriving DecidableEq, Repr

/-- One row of a platform's memory map: the addresses `first` to `last`, both included. -/
structure Region where
  first : Word
  last : Word
  kind : RegionKind
  deriving DecidableEq, Repr

/-- The parameter `Platform` of R4: the first region that holds an address says what it is; an address
in no region is RAM (D18: RAM everywhere by default). -/
abbrev Platform := List Region

end Sys2Proof
end

