-- ==== Sys2Proof/Syntax.lean ====
section
/-! DEFINITION. The syntax of the 6502: the 56 mnemonics (30_encoding.md R53), the 13 addressing modes
(R60 to R72), the operand forms, and `Instr` with one constructor for each of the 151 rows of
spec/opcode_table.json, carrying the operand that the instruction's bytes hold (R51, R54). -/

namespace Sys2Proof

/-- The 56 instructions of R53. -/
inductive Mnemonic where
  | lda | ldx | ldy | sta | stx | sty | tax | tay | txa | tya | tsx | txs
  | adc | sbc | cmp | cpx | cpy | inc | dec | inx | iny | dex | dey | and
  | ora | eor | bit | asl | lsr | rol | ror | pha | pla | php | plp | jmp
  | jsr | rts | bcc | bcs | beq | bne | bmi | bpl | bvc | bvs | clc | sec
  | cld | sed | cli | sei | clv | nop | brk | rti
  deriving DecidableEq, Repr

/-- The 13 addressing modes (00_scope.md section 5; R60 to R72). -/
inductive Mode where
  | imp | acc | imm | zp | zpx | zpy | abs | abx | aby | ind | izx | izy | rel
  deriving DecidableEq, Repr

/-- An operand in memory: the eight modes that compute an effective address for a data access (R63 to
R68, R70, R71). -/
inductive MemRef where
  /-- zero page (R63) -/
  | zp (b : Byte)
  /-- zero page indexed by X (R64) -/
  | zpx (b : Byte)
  /-- zero page indexed by Y (R65) -/
  | zpy (b : Byte)
  /-- absolute (R66) -/
  | abs (w : Word)
  /-- absolute indexed by X (R67) -/
  | abx (w : Word)
  /-- absolute indexed by Y (R68) -/
  | aby (w : Word)
  /-- indexed indirect, `(zp,X)` (R70) -/
  | izx (b : Byte)
  /-- indirect indexed, `(zp),Y` (R71) -/
  | izy (b : Byte)
  deriving DecidableEq, Repr

/-- What an instruction's bytes say its operand is. -/
inductive Operand where
  /-- implied (R60) -/
  | imp
  /-- the accumulator (R61) -/
  | acc
  /-- an immediate byte (R62) -/
  | imm (b : Byte)
  /-- an operand in memory; for JMP and JSR the absolute target (R63 to R68, R70, R71) -/
  | mem (r : MemRef)
  /-- the pointer of JMP (ind) (R69) -/
  | ind (w : Word)
  /-- a branch displacement (R72) -/
  | rel (b : Byte)
  deriving DecidableEq, Repr

/-- The 151 instruction forms, one for each row of spec/opcode_table.json; the name is the mnemonic and
the mode. -/
inductive Instr where
  /-- LDA IMM, $A9 (R80) -/
  | ldaImm (b : Byte)
  /-- LDA ZP, $A5 (R80) -/
  | ldaZp (b : Byte)
  /-- LDA ZPX, $B5 (R80) -/
  | ldaZpx (b : Byte)
  /-- LDA ABS, $AD (R80) -/
  | ldaAbs (w : Word)
  /-- LDA ABX, $BD (R80) -/
  | ldaAbx (w : Word)
  /-- LDA ABY, $B9 (R80) -/
  | ldaAby (w : Word)
  /-- LDA IZX, $A1 (R80) -/
  | ldaIzx (b : Byte)
  /-- LDA IZY, $B1 (R80) -/
  | ldaIzy (b : Byte)
  /-- LDX IMM, $A2 (R81) -/
  | ldxImm (b : Byte)
  /-- LDX ZP, $A6 (R81) -/
  | ldxZp (b : Byte)
  /-- LDX ZPY, $B6 (R81) -/
  | ldxZpy (b : Byte)
  /-- LDX ABS, $AE (R81) -/
  | ldxAbs (w : Word)
  /-- LDX ABY, $BE (R81) -/
  | ldxAby (w : Word)
  /-- LDY IMM, $A0 (R82) -/
  | ldyImm (b : Byte)
  /-- LDY ZP, $A4 (R82) -/
  | ldyZp (b : Byte)
  /-- LDY ZPX, $B4 (R82) -/
  | ldyZpx (b : Byte)
  /-- LDY ABS, $AC (R82) -/
  | ldyAbs (w : Word)
  /-- LDY ABX, $BC (R82) -/
  | ldyAbx (w : Word)
  /-- STA ZP, $85 (R83) -/
  | staZp (b : Byte)
  /-- STA ZPX, $95 (R83) -/
  | staZpx (b : Byte)
  /-- STA ABS, $8D (R83) -/
  | staAbs (w : Word)
  /-- STA ABX, $9D (R83) -/
  | staAbx (w : Word)
  /-- STA ABY, $99 (R83) -/
  | staAby (w : Word)
  /-- STA IZX, $81 (R83) -/
  | staIzx (b : Byte)
  /-- STA IZY, $91 (R83) -/
  | staIzy (b : Byte)
  /-- STX ZP, $86 (R84) -/
  | stxZp (b : Byte)
  /-- STX ZPY, $96 (R84) -/
  | stxZpy (b : Byte)
  /-- STX ABS, $8E (R84) -/
  | stxAbs (w : Word)
  /-- STY ZP, $84 (R85) -/
  | styZp (b : Byte)
  /-- STY ZPX, $94 (R85) -/
  | styZpx (b : Byte)
  /-- STY ABS, $8C (R85) -/
  | styAbs (w : Word)
  /-- TAX IMP, $AA (R86) -/
  | tax
  /-- TAY IMP, $A8 (R87) -/
  | tay
  /-- TXA IMP, $8A (R88) -/
  | txa
  /-- TYA IMP, $98 (R89) -/
  | tya
  /-- TSX IMP, $BA (R90) -/
  | tsx
  /-- TXS IMP, $9A (R91) -/
  | txs
  /-- ADC IMM, $69 (R101) -/
  | adcImm (b : Byte)
  /-- ADC ZP, $65 (R101) -/
  | adcZp (b : Byte)
  /-- ADC ZPX, $75 (R101) -/
  | adcZpx (b : Byte)
  /-- ADC ABS, $6D (R101) -/
  | adcAbs (w : Word)
  /-- ADC ABX, $7D (R101) -/
  | adcAbx (w : Word)
  /-- ADC ABY, $79 (R101) -/
  | adcAby (w : Word)
  /-- ADC IZX, $61 (R101) -/
  | adcIzx (b : Byte)
  /-- ADC IZY, $71 (R101) -/
  | adcIzy (b : Byte)
  /-- SBC IMM, $E9 (R103) -/
  | sbcImm (b : Byte)
  /-- SBC ZP, $E5 (R103) -/
  | sbcZp (b : Byte)
  /-- SBC ZPX, $F5 (R103) -/
  | sbcZpx (b : Byte)
  /-- SBC ABS, $ED (R103) -/
  | sbcAbs (w : Word)
  /-- SBC ABX, $FD (R103) -/
  | sbcAbx (w : Word)
  /-- SBC ABY, $F9 (R103) -/
  | sbcAby (w : Word)
  /-- SBC IZX, $E1 (R103) -/
  | sbcIzx (b : Byte)
  /-- SBC IZY, $F1 (R103) -/
  | sbcIzy (b : Byte)
  /-- CMP IMM, $C9 (R104) -/
  | cmpImm (b : Byte)
  /-- CMP ZP, $C5 (R104) -/
  | cmpZp (b : Byte)
  /-- CMP ZPX, $D5 (R104) -/
  | cmpZpx (b : Byte)
  /-- CMP ABS, $CD (R104) -/
  | cmpAbs (w : Word)
  /-- CMP ABX, $DD (R104) -/
  | cmpAbx (w : Word)
  /-- CMP ABY, $D9 (R104) -/
  | cmpAby (w : Word)
  /-- CMP IZX, $C1 (R104) -/
  | cmpIzx (b : Byte)
  /-- CMP IZY, $D1 (R104) -/
  | cmpIzy (b : Byte)
  /-- CPX IMM, $E0 (R105) -/
  | cpxImm (b : Byte)
  /-- CPX ZP, $E4 (R105) -/
  | cpxZp (b : Byte)
  /-- CPX ABS, $EC (R105) -/
  | cpxAbs (w : Word)
  /-- CPY IMM, $C0 (R106) -/
  | cpyImm (b : Byte)
  /-- CPY ZP, $C4 (R106) -/
  | cpyZp (b : Byte)
  /-- CPY ABS, $CC (R106) -/
  | cpyAbs (w : Word)
  /-- INC ZP, $E6 (R107) -/
  | incZp (b : Byte)
  /-- INC ZPX, $F6 (R107) -/
  | incZpx (b : Byte)
  /-- INC ABS, $EE (R107) -/
  | incAbs (w : Word)
  /-- INC ABX, $FE (R107) -/
  | incAbx (w : Word)
  /-- DEC ZP, $C6 (R108) -/
  | decZp (b : Byte)
  /-- DEC ZPX, $D6 (R108) -/
  | decZpx (b : Byte)
  /-- DEC ABS, $CE (R108) -/
  | decAbs (w : Word)
  /-- DEC ABX, $DE (R108) -/
  | decAbx (w : Word)
  /-- INX IMP, $E8 (R109) -/
  | inx
  /-- INY IMP, $C8 (R110) -/
  | iny
  /-- DEX IMP, $CA (R111) -/
  | dex
  /-- DEY IMP, $88 (R112) -/
  | dey
  /-- AND IMM, $29 (R120) -/
  | andImm (b : Byte)
  /-- AND ZP, $25 (R120) -/
  | andZp (b : Byte)
  /-- AND ZPX, $35 (R120) -/
  | andZpx (b : Byte)
  /-- AND ABS, $2D (R120) -/
  | andAbs (w : Word)
  /-- AND ABX, $3D (R120) -/
  | andAbx (w : Word)
  /-- AND ABY, $39 (R120) -/
  | andAby (w : Word)
  /-- AND IZX, $21 (R120) -/
  | andIzx (b : Byte)
  /-- AND IZY, $31 (R120) -/
  | andIzy (b : Byte)
  /-- ORA IMM, $09 (R121) -/
  | oraImm (b : Byte)
  /-- ORA ZP, $05 (R121) -/
  | oraZp (b : Byte)
  /-- ORA ZPX, $15 (R121) -/
  | oraZpx (b : Byte)
  /-- ORA ABS, $0D (R121) -/
  | oraAbs (w : Word)
  /-- ORA ABX, $1D (R121) -/
  | oraAbx (w : Word)
  /-- ORA ABY, $19 (R121) -/
  | oraAby (w : Word)
  /-- ORA IZX, $01 (R121) -/
  | oraIzx (b : Byte)
  /-- ORA IZY, $11 (R121) -/
  | oraIzy (b : Byte)
  /-- EOR IMM, $49 (R122) -/
  | eorImm (b : Byte)
  /-- EOR ZP, $45 (R122) -/
  | eorZp (b : Byte)
  /-- EOR ZPX, $55 (R122) -/
  | eorZpx (b : Byte)
  /-- EOR ABS, $4D (R122) -/
  | eorAbs (w : Word)
  /-- EOR ABX, $5D (R122) -/
  | eorAbx (w : Word)
  /-- EOR ABY, $59 (R122) -/
  | eorAby (w : Word)
  /-- EOR IZX, $41 (R122) -/
  | eorIzx (b : Byte)
  /-- EOR IZY, $51 (R122) -/
  | eorIzy (b : Byte)
  /-- BIT ZP, $24 (R123) -/
  | bitZp (b : Byte)
  /-- BIT ABS, $2C (R123) -/
  | bitAbs (w : Word)
  /-- ASL ACC, $0A (R124) -/
  | aslAcc
  /-- ASL ZP, $06 (R124) -/
  | aslZp (b : Byte)
  /-- ASL ZPX, $16 (R124) -/
  | aslZpx (b : Byte)
  /-- ASL ABS, $0E (R124) -/
  | aslAbs (w : Word)
  /-- ASL ABX, $1E (R124) -/
  | aslAbx (w : Word)
  /-- LSR ACC, $4A (R125) -/
  | lsrAcc
  /-- LSR ZP, $46 (R125) -/
  | lsrZp (b : Byte)
  /-- LSR ZPX, $56 (R125) -/
  | lsrZpx (b : Byte)
  /-- LSR ABS, $4E (R125) -/
  | lsrAbs (w : Word)
  /-- LSR ABX, $5E (R125) -/
  | lsrAbx (w : Word)
  /-- ROL ACC, $2A (R126) -/
  | rolAcc
  /-- ROL ZP, $26 (R126) -/
  | rolZp (b : Byte)
  /-- ROL ZPX, $36 (R126) -/
  | rolZpx (b : Byte)
  /-- ROL ABS, $2E (R126) -/
  | rolAbs (w : Word)
  /-- ROL ABX, $3E (R126) -/
  | rolAbx (w : Word)
  /-- ROR ACC, $6A (R127) -/
  | rorAcc
  /-- ROR ZP, $66 (R127) -/
  | rorZp (b : Byte)
  /-- ROR ZPX, $76 (R127) -/
  | rorZpx (b : Byte)
  /-- ROR ABS, $6E (R127) -/
  | rorAbs (w : Word)
  /-- ROR ABX, $7E (R127) -/
  | rorAbx (w : Word)
  /-- PHA IMP, $48 (R132) -/
  | pha
  /-- PLA IMP, $68 (R133) -/
  | pla
  /-- PHP IMP, $08 (R134) -/
  | php
  /-- PLP IMP, $28 (R135) -/
  | plp
  /-- JMP ABS, $4C (R141) -/
  | jmpAbs (w : Word)
  /-- JMP IND, $6C (R141) -/
  | jmpInd (w : Word)
  /-- JSR ABS, $20 (R142) -/
  | jsr (w : Word)
  /-- RTS IMP, $60 (R143) -/
  | rts
  /-- BCC REL, $90 (R145) -/
  | bcc (b : Byte)
  /-- BCS REL, $B0 (R146) -/
  | bcs (b : Byte)
  /-- BEQ REL, $F0 (R147) -/
  | beq (b : Byte)
  /-- BNE REL, $D0 (R148) -/
  | bne (b : Byte)
  /-- BMI REL, $30 (R149) -/
  | bmi (b : Byte)
  /-- BPL REL, $10 (R150) -/
  | bpl (b : Byte)
  /-- BVC REL, $50 (R151) -/
  | bvc (b : Byte)
  /-- BVS REL, $70 (R152) -/
  | bvs (b : Byte)
  /-- CLC IMP, $18 (R160) -/
  | clc
  /-- SEC IMP, $38 (R161) -/
  | sec
  /-- CLD IMP, $D8 (R162) -/
  | cld
  /-- SED IMP, $F8 (R163) -/
  | sed
  /-- CLI IMP, $58 (R164) -/
  | cli
  /-- SEI IMP, $78 (R165) -/
  | sei
  /-- CLV IMP, $B8 (R166) -/
  | clv
  /-- NOP IMP, $EA (R167) -/
  | nop
  /-- BRK IMP, $00 (R168) -/
  | brk
  /-- RTI IMP, $40 (R169) -/
  | rti
  deriving DecidableEq, Repr

/-- The mode of an operand in memory. -/
def MemRef.mode : MemRef → Mode
  | .zp _ => .zp
  | .zpx _ => .zpx
  | .zpy _ => .zpy
  | .abs _ => .abs
  | .abx _ => .abx
  | .aby _ => .aby
  | .izx _ => .izx
  | .izy _ => .izy

/-- The mode of an operand. -/
def Operand.mode : Operand → Mode
  | .imp => .imp
  | .acc => .acc
  | .imm _ => .imm
  | .mem r => r.mode
  | .ind _ => .ind
  | .rel _ => .rel

/-- The mnemonic of each form. -/
def Instr.mnemonic : Instr → Mnemonic
  | .ldaImm _ => .lda
  | .ldaZp _ => .lda
  | .ldaZpx _ => .lda
  | .ldaAbs _ => .lda
  | .ldaAbx _ => .lda
  | .ldaAby _ => .lda
  | .ldaIzx _ => .lda
  | .ldaIzy _ => .lda
  | .ldxImm _ => .ldx
  | .ldxZp _ => .ldx
  | .ldxZpy _ => .ldx
  | .ldxAbs _ => .ldx
  | .ldxAby _ => .ldx
  | .ldyImm _ => .ldy
  | .ldyZp _ => .ldy
  | .ldyZpx _ => .ldy
  | .ldyAbs _ => .ldy
  | .ldyAbx _ => .ldy
  | .staZp _ => .sta
  | .staZpx _ => .sta
  | .staAbs _ => .sta
  | .staAbx _ => .sta
  | .staAby _ => .sta
  | .staIzx _ => .sta
  | .staIzy _ => .sta
  | .stxZp _ => .stx
  | .stxZpy _ => .stx
  | .stxAbs _ => .stx
  | .styZp _ => .sty
  | .styZpx _ => .sty
  | .styAbs _ => .sty
  | .tax => .tax
  | .tay => .tay
  | .txa => .txa
  | .tya => .tya
  | .tsx => .tsx
  | .txs => .txs
  | .adcImm _ => .adc
  | .adcZp _ => .adc
  | .adcZpx _ => .adc
  | .adcAbs _ => .adc
  | .adcAbx _ => .adc
  | .adcAby _ => .adc
  | .adcIzx _ => .adc
  | .adcIzy _ => .adc
  | .sbcImm _ => .sbc
  | .sbcZp _ => .sbc
  | .sbcZpx _ => .sbc
  | .sbcAbs _ => .sbc
  | .sbcAbx _ => .sbc
  | .sbcAby _ => .sbc
  | .sbcIzx _ => .sbc
  | .sbcIzy _ => .sbc
  | .cmpImm _ => .cmp
  | .cmpZp _ => .cmp
  | .cmpZpx _ => .cmp
  | .cmpAbs _ => .cmp
  | .cmpAbx _ => .cmp
  | .cmpAby _ => .cmp
  | .cmpIzx _ => .cmp
  | .cmpIzy _ => .cmp
  | .cpxImm _ => .cpx
  | .cpxZp _ => .cpx
  | .cpxAbs _ => .cpx
  | .cpyImm _ => .cpy
  | .cpyZp _ => .cpy
  | .cpyAbs _ => .cpy
  | .incZp _ => .inc
  | .incZpx _ => .inc
  | .incAbs _ => .inc
  | .incAbx _ => .inc
  | .decZp _ => .dec
  | .decZpx _ => .dec
  | .decAbs _ => .dec
  | .decAbx _ => .dec
  | .inx => .inx
  | .iny => .iny
  | .dex => .dex
  | .dey => .dey
  | .andImm _ => .and
  | .andZp _ => .and
  | .andZpx _ => .and
  | .andAbs _ => .and
  | .andAbx _ => .and
  | .andAby _ => .and
  | .andIzx _ => .and
  | .andIzy _ => .and
  | .oraImm _ => .ora
  | .oraZp _ => .ora
  | .oraZpx _ => .ora
  | .oraAbs _ => .ora
  | .oraAbx _ => .ora
  | .oraAby _ => .ora
  | .oraIzx _ => .ora
  | .oraIzy _ => .ora
  | .eorImm _ => .eor
  | .eorZp _ => .eor
  | .eorZpx _ => .eor
  | .eorAbs _ => .eor
  | .eorAbx _ => .eor
  | .eorAby _ => .eor
  | .eorIzx _ => .eor
  | .eorIzy _ => .eor
  | .bitZp _ => .bit
  | .bitAbs _ => .bit
  | .aslAcc => .asl
  | .aslZp _ => .asl
  | .aslZpx _ => .asl
  | .aslAbs _ => .asl
  | .aslAbx _ => .asl
  | .lsrAcc => .lsr
  | .lsrZp _ => .lsr
  | .lsrZpx _ => .lsr
  | .lsrAbs _ => .lsr
  | .lsrAbx _ => .lsr
  | .rolAcc => .rol
  | .rolZp _ => .rol
  | .rolZpx _ => .rol
  | .rolAbs _ => .rol
  | .rolAbx _ => .rol
  | .rorAcc => .ror
  | .rorZp _ => .ror
  | .rorZpx _ => .ror
  | .rorAbs _ => .ror
  | .rorAbx _ => .ror
  | .pha => .pha
  | .pla => .pla
  | .php => .php
  | .plp => .plp
  | .jmpAbs _ => .jmp
  | .jmpInd _ => .jmp
  | .jsr _ => .jsr
  | .rts => .rts
  | .bcc _ => .bcc
  | .bcs _ => .bcs
  | .beq _ => .beq
  | .bne _ => .bne
  | .bmi _ => .bmi
  | .bpl _ => .bpl
  | .bvc _ => .bvc
  | .bvs _ => .bvs
  | .clc => .clc
  | .sec => .sec
  | .cld => .cld
  | .sed => .sed
  | .cli => .cli
  | .sei => .sei
  | .clv => .clv
  | .nop => .nop
  | .brk => .brk
  | .rti => .rti

/-- The operand of each form. -/
def Instr.operand : Instr → Operand
  | .ldaImm b => .imm b
  | .ldaZp b => .mem (.zp b)
  | .ldaZpx b => .mem (.zpx b)
  | .ldaAbs w => .mem (.abs w)
  | .ldaAbx w => .mem (.abx w)
  | .ldaAby w => .mem (.aby w)
  | .ldaIzx b => .mem (.izx b)
  | .ldaIzy b => .mem (.izy b)
  | .ldxImm b => .imm b
  | .ldxZp b => .mem (.zp b)
  | .ldxZpy b => .mem (.zpy b)
  | .ldxAbs w => .mem (.abs w)
  | .ldxAby w => .mem (.aby w)
  | .ldyImm b => .imm b
  | .ldyZp b => .mem (.zp b)
  | .ldyZpx b => .mem (.zpx b)
  | .ldyAbs w => .mem (.abs w)
  | .ldyAbx w => .mem (.abx w)
  | .staZp b => .mem (.zp b)
  | .staZpx b => .mem (.zpx b)
  | .staAbs w => .mem (.abs w)
  | .staAbx w => .mem (.abx w)
  | .staAby w => .mem (.aby w)
  | .staIzx b => .mem (.izx b)
  | .staIzy b => .mem (.izy b)
  | .stxZp b => .mem (.zp b)
  | .stxZpy b => .mem (.zpy b)
  | .stxAbs w => .mem (.abs w)
  | .styZp b => .mem (.zp b)
  | .styZpx b => .mem (.zpx b)
  | .styAbs w => .mem (.abs w)
  | .tax => .imp
  | .tay => .imp
  | .txa => .imp
  | .tya => .imp
  | .tsx => .imp
  | .txs => .imp
  | .adcImm b => .imm b
  | .adcZp b => .mem (.zp b)
  | .adcZpx b => .mem (.zpx b)
  | .adcAbs w => .mem (.abs w)
  | .adcAbx w => .mem (.abx w)
  | .adcAby w => .mem (.aby w)
  | .adcIzx b => .mem (.izx b)
  | .adcIzy b => .mem (.izy b)
  | .sbcImm b => .imm b
  | .sbcZp b => .mem (.zp b)
  | .sbcZpx b => .mem (.zpx b)
  | .sbcAbs w => .mem (.abs w)
  | .sbcAbx w => .mem (.abx w)
  | .sbcAby w => .mem (.aby w)
  | .sbcIzx b => .mem (.izx b)
  | .sbcIzy b => .mem (.izy b)
  | .cmpImm b => .imm b
  | .cmpZp b => .mem (.zp b)
  | .cmpZpx b => .mem (.zpx b)
  | .cmpAbs w => .mem (.abs w)
  | .cmpAbx w => .mem (.abx w)
  | .cmpAby w => .mem (.aby w)
  | .cmpIzx b => .mem (.izx b)
  | .cmpIzy b => .mem (.izy b)
  | .cpxImm b => .imm b
  | .cpxZp b => .mem (.zp b)
  | .cpxAbs w => .mem (.abs w)
  | .cpyImm b => .imm b
  | .cpyZp b => .mem (.zp b)
  | .cpyAbs w => .mem (.abs w)
  | .incZp b => .mem (.zp b)
  | .incZpx b => .mem (.zpx b)
  | .incAbs w => .mem (.abs w)
  | .incAbx w => .mem (.abx w)
  | .decZp b => .mem (.zp b)
  | .decZpx b => .mem (.zpx b)
  | .decAbs w => .mem (.abs w)
  | .decAbx w => .mem (.abx w)
  | .inx => .imp
  | .iny => .imp
  | .dex => .imp
  | .dey => .imp
  | .andImm b => .imm b
  | .andZp b => .mem (.zp b)
  | .andZpx b => .mem (.zpx b)
  | .andAbs w => .mem (.abs w)
  | .andAbx w => .mem (.abx w)
  | .andAby w => .mem (.aby w)
  | .andIzx b => .mem (.izx b)
  | .andIzy b => .mem (.izy b)
  | .oraImm b => .imm b
  | .oraZp b => .mem (.zp b)
  | .oraZpx b => .mem (.zpx b)
  | .oraAbs w => .mem (.abs w)
  | .oraAbx w => .mem (.abx w)
  | .oraAby w => .mem (.aby w)
  | .oraIzx b => .mem (.izx b)
  | .oraIzy b => .mem (.izy b)
  | .eorImm b => .imm b
  | .eorZp b => .mem (.zp b)
  | .eorZpx b => .mem (.zpx b)
  | .eorAbs w => .mem (.abs w)
  | .eorAbx w => .mem (.abx w)
  | .eorAby w => .mem (.aby w)
  | .eorIzx b => .mem (.izx b)
  | .eorIzy b => .mem (.izy b)
  | .bitZp b => .mem (.zp b)
  | .bitAbs w => .mem (.abs w)
  | .aslAcc => .acc
  | .aslZp b => .mem (.zp b)
  | .aslZpx b => .mem (.zpx b)
  | .aslAbs w => .mem (.abs w)
  | .aslAbx w => .mem (.abx w)
  | .lsrAcc => .acc
  | .lsrZp b => .mem (.zp b)
  | .lsrZpx b => .mem (.zpx b)
  | .lsrAbs w => .mem (.abs w)
  | .lsrAbx w => .mem (.abx w)
  | .rolAcc => .acc
  | .rolZp b => .mem (.zp b)
  | .rolZpx b => .mem (.zpx b)
  | .rolAbs w => .mem (.abs w)
  | .rolAbx w => .mem (.abx w)
  | .rorAcc => .acc
  | .rorZp b => .mem (.zp b)
  | .rorZpx b => .mem (.zpx b)
  | .rorAbs w => .mem (.abs w)
  | .rorAbx w => .mem (.abx w)
  | .pha => .imp
  | .pla => .imp
  | .php => .imp
  | .plp => .imp
  | .jmpAbs w => .mem (.abs w)
  | .jmpInd w => .ind w
  | .jsr w => .mem (.abs w)
  | .rts => .imp
  | .bcc b => .rel b
  | .bcs b => .rel b
  | .beq b => .rel b
  | .bne b => .rel b
  | .bmi b => .rel b
  | .bpl b => .rel b
  | .bvc b => .rel b
  | .bvs b => .rel b
  | .clc => .imp
  | .sec => .imp
  | .cld => .imp
  | .sed => .imp
  | .cli => .imp
  | .sei => .imp
  | .clv => .imp
  | .nop => .imp
  | .brk => .imp
  | .rti => .imp

/-- The addressing mode of each form. -/
def Instr.mode (i : Instr) : Mode := i.operand.mode

end Sys2Proof
end

