-- ==== Sys2Proof/WellFormed.lean ====
section
/-! DEFINITION. Which instruction takes which addressing mode: the "Operands" line of each instruction
rule R80 to R169 (30_encoding.md R73; an empty cell of R75's second table is "an assembler error"). An
operand's VALUE is never ill-formed: every byte and every word is a legal operand (R54), which the types
`Byte` and `Word` say; so the form, a mnemonic with a mode, is all there is to check. -/

namespace Sys2Proof

/-- The "Operands" line of the mnemonic's rule. -/
def modesOf : Mnemonic → List Mode
  | .lda => [.imm, .zp, .zpx, .abs, .abx, .aby, .izx, .izy]
  | .ldx => [.imm, .zp, .zpy, .abs, .aby]
  | .ldy => [.imm, .zp, .zpx, .abs, .abx]
  | .sta => [.zp, .zpx, .abs, .abx, .aby, .izx, .izy]
  | .stx => [.zp, .zpy, .abs]
  | .sty => [.zp, .zpx, .abs]
  | .tax => [.imp]
  | .tay => [.imp]
  | .txa => [.imp]
  | .tya => [.imp]
  | .tsx => [.imp]
  | .txs => [.imp]
  | .adc => [.imm, .zp, .zpx, .abs, .abx, .aby, .izx, .izy]
  | .sbc => [.imm, .zp, .zpx, .abs, .abx, .aby, .izx, .izy]
  | .cmp => [.imm, .zp, .zpx, .abs, .abx, .aby, .izx, .izy]
  | .cpx => [.imm, .zp, .abs]
  | .cpy => [.imm, .zp, .abs]
  | .inc => [.zp, .zpx, .abs, .abx]
  | .dec => [.zp, .zpx, .abs, .abx]
  | .inx => [.imp]
  | .iny => [.imp]
  | .dex => [.imp]
  | .dey => [.imp]
  | .and => [.imm, .zp, .zpx, .abs, .abx, .aby, .izx, .izy]
  | .ora => [.imm, .zp, .zpx, .abs, .abx, .aby, .izx, .izy]
  | .eor => [.imm, .zp, .zpx, .abs, .abx, .aby, .izx, .izy]
  | .bit => [.zp, .abs]
  | .asl => [.acc, .zp, .zpx, .abs, .abx]
  | .lsr => [.acc, .zp, .zpx, .abs, .abx]
  | .rol => [.acc, .zp, .zpx, .abs, .abx]
  | .ror => [.acc, .zp, .zpx, .abs, .abx]
  | .pha => [.imp]
  | .pla => [.imp]
  | .php => [.imp]
  | .plp => [.imp]
  | .jmp => [.abs, .ind]
  | .jsr => [.abs]
  | .rts => [.imp]
  | .bcc => [.rel]
  | .bcs => [.rel]
  | .beq => [.rel]
  | .bne => [.rel]
  | .bmi => [.rel]
  | .bpl => [.rel]
  | .bvc => [.rel]
  | .bvs => [.rel]
  | .clc => [.imp]
  | .sec => [.imp]
  | .cld => [.imp]
  | .sed => [.imp]
  | .cli => [.imp]
  | .sei => [.imp]
  | .clv => [.imp]
  | .nop => [.imp]
  | .brk => [.imp]
  | .rti => [.imp]

/-- The instruction has that form (R73, R75). -/
def formExists (m : Mnemonic) (md : Mode) : Bool := (modesOf m).contains md

/-- The instruction's form is one of the 151 of R75. -/
def Instr.wellFormed (i : Instr) : Bool := formExists i.mnemonic i.mode

end Sys2Proof
end

