-- ==== Sys2Proof/Decode.lean ====
section
/-! DEFINITION. Bytes and instructions: the bit and byte-order helpers (00_scope.md R5), the decoder (the
16 by 16 grid of 30_encoding.md R75), and the encoder (the mnemonic by mode table of R75, in the
formats of R51). The decoder and the encoder are written from the two tables apart. -/

namespace Sys2Proof

/-- `v[i]` of R5. -/
def bit (v : Byte) (i : Nat) : Bool := v.getLsbD i

/-- `lo8` of R5. -/
def lo8 (w : Word) : Byte := w.setWidth 8

/-- `hi8` of R5. -/
def hi8 (w : Word) : Byte := (w >>> 8).setWidth 8

/-- `cat(h, l)` of R5. -/
def cat (h l : Byte) : Word := h ++ l

/-- `zext_16` of R6. -/
def zext16 (b : Byte) : Word := b.setWidth 16

/-- `sext_16` of R6. -/
def sext16 (b : Byte) : Word := b.signExtend 16

/-- `u8` of R5, of a natural number. -/
def u8 (n : Nat) : Byte := BitVec.ofNat 8 n

/-- `u8` of R5, of an integer. -/
def u8Int (n : Int) : Byte := BitVec.ofInt 8 n

/-- A bit as a number. -/
def bitValue (b : Bool) : Nat := if b then 1 else 0

/-- The length column of R51. -/
def Mode.length : Mode → Nat
  | .imp | .acc => 1
  | .imm | .zp | .zpx | .zpy | .izx | .izy | .rel => 2
  | .abs | .abx | .aby | .ind => 3

/-- The number of bytes of an instruction (R50, R51). -/
def Instr.length (i : Instr) : Nat := i.mode.length

/-! ### The decoder -/

/-- What an opcode byte asks for: the formats F1, F2, F3 of R51. -/
inductive Form where
  /-- F1: the opcode alone -/
  | f1 (i : Instr)
  /-- F2: one operand byte -/
  | f2 (k : Byte → Instr)
  /-- F3: a 16-bit address, low byte first -/
  | f3 (k : Word → Instr)

/-- Row 0x of the grid of R75. -/
def gridRow0 : Nat → Option Form
  | 0x0 => some (.f1 .brk)
  | 0x1 => some (.f2 Instr.oraIzx)
  | 0x5 => some (.f2 Instr.oraZp)
  | 0x6 => some (.f2 Instr.aslZp)
  | 0x8 => some (.f1 .php)
  | 0x9 => some (.f2 Instr.oraImm)
  | 0xA => some (.f1 .aslAcc)
  | 0xD => some (.f3 Instr.oraAbs)
  | 0xE => some (.f3 Instr.aslAbs)
  | _ => none

/-- Row 1x of the grid of R75. -/
def gridRow1 : Nat → Option Form
  | 0x0 => some (.f2 Instr.bpl)
  | 0x1 => some (.f2 Instr.oraIzy)
  | 0x5 => some (.f2 Instr.oraZpx)
  | 0x6 => some (.f2 Instr.aslZpx)
  | 0x8 => some (.f1 .clc)
  | 0x9 => some (.f3 Instr.oraAby)
  | 0xD => some (.f3 Instr.oraAbx)
  | 0xE => some (.f3 Instr.aslAbx)
  | _ => none

/-- Row 2x of the grid of R75. -/
def gridRow2 : Nat → Option Form
  | 0x0 => some (.f3 Instr.jsr)
  | 0x1 => some (.f2 Instr.andIzx)
  | 0x4 => some (.f2 Instr.bitZp)
  | 0x5 => some (.f2 Instr.andZp)
  | 0x6 => some (.f2 Instr.rolZp)
  | 0x8 => some (.f1 .plp)
  | 0x9 => some (.f2 Instr.andImm)
  | 0xA => some (.f1 .rolAcc)
  | 0xC => some (.f3 Instr.bitAbs)
  | 0xD => some (.f3 Instr.andAbs)
  | 0xE => some (.f3 Instr.rolAbs)
  | _ => none

/-- Row 3x of the grid of R75. -/
def gridRow3 : Nat → Option Form
  | 0x0 => some (.f2 Instr.bmi)
  | 0x1 => some (.f2 Instr.andIzy)
  | 0x5 => some (.f2 Instr.andZpx)
  | 0x6 => some (.f2 Instr.rolZpx)
  | 0x8 => some (.f1 .sec)
  | 0x9 => some (.f3 Instr.andAby)
  | 0xD => some (.f3 Instr.andAbx)
  | 0xE => some (.f3 Instr.rolAbx)
  | _ => none

/-- Row 4x of the grid of R75. -/
def gridRow4 : Nat → Option Form
  | 0x0 => some (.f1 .rti)
  | 0x1 => some (.f2 Instr.eorIzx)
  | 0x5 => some (.f2 Instr.eorZp)
  | 0x6 => some (.f2 Instr.lsrZp)
  | 0x8 => some (.f1 .pha)
  | 0x9 => some (.f2 Instr.eorImm)
  | 0xA => some (.f1 .lsrAcc)
  | 0xC => some (.f3 Instr.jmpAbs)
  | 0xD => some (.f3 Instr.eorAbs)
  | 0xE => some (.f3 Instr.lsrAbs)
  | _ => none

/-- Row 5x of the grid of R75. -/
def gridRow5 : Nat → Option Form
  | 0x0 => some (.f2 Instr.bvc)
  | 0x1 => some (.f2 Instr.eorIzy)
  | 0x5 => some (.f2 Instr.eorZpx)
  | 0x6 => some (.f2 Instr.lsrZpx)
  | 0x8 => some (.f1 .cli)
  | 0x9 => some (.f3 Instr.eorAby)
  | 0xD => some (.f3 Instr.eorAbx)
  | 0xE => some (.f3 Instr.lsrAbx)
  | _ => none

/-- Row 6x of the grid of R75. -/
def gridRow6 : Nat → Option Form
  | 0x0 => some (.f1 .rts)
  | 0x1 => some (.f2 Instr.adcIzx)
  | 0x5 => some (.f2 Instr.adcZp)
  | 0x6 => some (.f2 Instr.rorZp)
  | 0x8 => some (.f1 .pla)
  | 0x9 => some (.f2 Instr.adcImm)
  | 0xA => some (.f1 .rorAcc)
  | 0xC => some (.f3 Instr.jmpInd)
  | 0xD => some (.f3 Instr.adcAbs)
  | 0xE => some (.f3 Instr.rorAbs)
  | _ => none

/-- Row 7x of the grid of R75. -/
def gridRow7 : Nat → Option Form
  | 0x0 => some (.f2 Instr.bvs)
  | 0x1 => some (.f2 Instr.adcIzy)
  | 0x5 => some (.f2 Instr.adcZpx)
  | 0x6 => some (.f2 Instr.rorZpx)
  | 0x8 => some (.f1 .sei)
  | 0x9 => some (.f3 Instr.adcAby)
  | 0xD => some (.f3 Instr.adcAbx)
  | 0xE => some (.f3 Instr.rorAbx)
  | _ => none

/-- Row 8x of the grid of R75. -/
def gridRow8 : Nat → Option Form
  | 0x1 => some (.f2 Instr.staIzx)
  | 0x4 => some (.f2 Instr.styZp)
  | 0x5 => some (.f2 Instr.staZp)
  | 0x6 => some (.f2 Instr.stxZp)
  | 0x8 => some (.f1 .dey)
  | 0xA => some (.f1 .txa)
  | 0xC => some (.f3 Instr.styAbs)
  | 0xD => some (.f3 Instr.staAbs)
  | 0xE => some (.f3 Instr.stxAbs)
  | _ => none

/-- Row 9x of the grid of R75. -/
def gridRow9 : Nat → Option Form
  | 0x0 => some (.f2 Instr.bcc)
  | 0x1 => some (.f2 Instr.staIzy)
  | 0x4 => some (.f2 Instr.styZpx)
  | 0x5 => some (.f2 Instr.staZpx)
  | 0x6 => some (.f2 Instr.stxZpy)
  | 0x8 => some (.f1 .tya)
  | 0x9 => some (.f3 Instr.staAby)
  | 0xA => some (.f1 .txs)
  | 0xD => some (.f3 Instr.staAbx)
  | _ => none

/-- Row Ax of the grid of R75. -/
def gridRowA : Nat → Option Form
  | 0x0 => some (.f2 Instr.ldyImm)
  | 0x1 => some (.f2 Instr.ldaIzx)
  | 0x2 => some (.f2 Instr.ldxImm)
  | 0x4 => some (.f2 Instr.ldyZp)
  | 0x5 => some (.f2 Instr.ldaZp)
  | 0x6 => some (.f2 Instr.ldxZp)
  | 0x8 => some (.f1 .tay)
  | 0x9 => some (.f2 Instr.ldaImm)
  | 0xA => some (.f1 .tax)
  | 0xC => some (.f3 Instr.ldyAbs)
  | 0xD => some (.f3 Instr.ldaAbs)
  | 0xE => some (.f3 Instr.ldxAbs)
  | _ => none

/-- Row Bx of the grid of R75. -/
def gridRowB : Nat → Option Form
  | 0x0 => some (.f2 Instr.bcs)
  | 0x1 => some (.f2 Instr.ldaIzy)
  | 0x4 => some (.f2 Instr.ldyZpx)
  | 0x5 => some (.f2 Instr.ldaZpx)
  | 0x6 => some (.f2 Instr.ldxZpy)
  | 0x8 => some (.f1 .clv)
  | 0x9 => some (.f3 Instr.ldaAby)
  | 0xA => some (.f1 .tsx)
  | 0xC => some (.f3 Instr.ldyAbx)
  | 0xD => some (.f3 Instr.ldaAbx)
  | 0xE => some (.f3 Instr.ldxAby)
  | _ => none

/-- Row Cx of the grid of R75. -/
def gridRowC : Nat → Option Form
  | 0x0 => some (.f2 Instr.cpyImm)
  | 0x1 => some (.f2 Instr.cmpIzx)
  | 0x4 => some (.f2 Instr.cpyZp)
  | 0x5 => some (.f2 Instr.cmpZp)
  | 0x6 => some (.f2 Instr.decZp)
  | 0x8 => some (.f1 .iny)
  | 0x9 => some (.f2 Instr.cmpImm)
  | 0xA => some (.f1 .dex)
  | 0xC => some (.f3 Instr.cpyAbs)
  | 0xD => some (.f3 Instr.cmpAbs)
  | 0xE => some (.f3 Instr.decAbs)
  | _ => none

/-- Row Dx of the grid of R75. -/
def gridRowD : Nat → Option Form
  | 0x0 => some (.f2 Instr.bne)
  | 0x1 => some (.f2 Instr.cmpIzy)
  | 0x5 => some (.f2 Instr.cmpZpx)
  | 0x6 => some (.f2 Instr.decZpx)
  | 0x8 => some (.f1 .cld)
  | 0x9 => some (.f3 Instr.cmpAby)
  | 0xD => some (.f3 Instr.cmpAbx)
  | 0xE => some (.f3 Instr.decAbx)
  | _ => none

/-- Row Ex of the grid of R75. -/
def gridRowE : Nat → Option Form
  | 0x0 => some (.f2 Instr.cpxImm)
  | 0x1 => some (.f2 Instr.sbcIzx)
  | 0x4 => some (.f2 Instr.cpxZp)
  | 0x5 => some (.f2 Instr.sbcZp)
  | 0x6 => some (.f2 Instr.incZp)
  | 0x8 => some (.f1 .inx)
  | 0x9 => some (.f2 Instr.sbcImm)
  | 0xA => some (.f1 .nop)
  | 0xC => some (.f3 Instr.cpxAbs)
  | 0xD => some (.f3 Instr.sbcAbs)
  | 0xE => some (.f3 Instr.incAbs)
  | _ => none

/-- Row Fx of the grid of R75. -/
def gridRowF : Nat → Option Form
  | 0x0 => some (.f2 Instr.beq)
  | 0x1 => some (.f2 Instr.sbcIzy)
  | 0x5 => some (.f2 Instr.sbcZpx)
  | 0x6 => some (.f2 Instr.incZpx)
  | 0x8 => some (.f1 .sed)
  | 0x9 => some (.f3 Instr.sbcAby)
  | 0xD => some (.f3 Instr.sbcAbx)
  | 0xE => some (.f3 Instr.incAbx)
  | _ => none

/-- The grid of R75: the opcode byte alone selects the form (R50); none for the 105 bytes that are no
valid opcode (R74). -/
def lookup (op : Byte) : Option Form :=
  let lowNibble := op.toNat % 16
  match op.toNat / 16 with
  | 0x0 => gridRow0 lowNibble
  | 0x1 => gridRow1 lowNibble
  | 0x2 => gridRow2 lowNibble
  | 0x3 => gridRow3 lowNibble
  | 0x4 => gridRow4 lowNibble
  | 0x5 => gridRow5 lowNibble
  | 0x6 => gridRow6 lowNibble
  | 0x7 => gridRow7 lowNibble
  | 0x8 => gridRow8 lowNibble
  | 0x9 => gridRow9 lowNibble
  | 0xA => gridRowA lowNibble
  | 0xB => gridRowB lowNibble
  | 0xC => gridRowC lowNibble
  | 0xD => gridRowD lowNibble
  | 0xE => gridRowE lowNibble
  | 0xF => gridRowF lowNibble
  | _ => none

/-- Why a byte string is no instruction. -/
inductive DecodeError where
  /-- there is no opcode byte -/
  | empty
  /-- the byte is not one of the 151 valid opcodes (R74) -/
  | illegalOpcode (op : Byte)
  /-- the operand bytes are missing -/
  | truncated (op : Byte)
  deriving DecidableEq, Repr

/-- The instruction at the head of a byte string, and the bytes after it (R50, R51). -/
def decode : List Byte → Except DecodeError (Instr × List Byte)
  | [] => .error .empty
  | op :: rest =>
    match lookup op, rest with
    | none, _ => .error (.illegalOpcode op)
    | some (.f1 i), rest => .ok (i, rest)
    | some (.f2 k), b1 :: rest => .ok (k b1, rest)
    | some (.f3 k), b1 :: b2 :: rest => .ok (k (cat b2 b1), rest)
    | some _, _ => .error (.truncated op)

/-- The instruction an instruction's bytes, written as one number, decode to: byte 0 is the least
significant, every bit from `nbits` up is 0. -/
def decodeTableWord (nbits w : Nat) : Option Instr :=
  let v := w % 2 ^ nbits
  match decode [u8 v, u8 (v / 256), u8 (v / 65536)] with
  | .ok (i, _) => some i
  | .error _ => none

/-! ### The encoder -/

/-- The opcode bytes by mnemonic and mode: the second table of R75. -/
def opcodeOf : Mnemonic → Mode → Option Byte
  | .lda, .imm => some 0xA9
  | .lda, .zp => some 0xA5
  | .lda, .zpx => some 0xB5
  | .lda, .abs => some 0xAD
  | .lda, .abx => some 0xBD
  | .lda, .aby => some 0xB9
  | .lda, .izx => some 0xA1
  | .lda, .izy => some 0xB1
  | .ldx, .imm => some 0xA2
  | .ldx, .zp => some 0xA6
  | .ldx, .zpy => some 0xB6
  | .ldx, .abs => some 0xAE
  | .ldx, .aby => some 0xBE
  | .ldy, .imm => some 0xA0
  | .ldy, .zp => some 0xA4
  | .ldy, .zpx => some 0xB4
  | .ldy, .abs => some 0xAC
  | .ldy, .abx => some 0xBC
  | .sta, .zp => some 0x85
  | .sta, .zpx => some 0x95
  | .sta, .abs => some 0x8D
  | .sta, .abx => some 0x9D
  | .sta, .aby => some 0x99
  | .sta, .izx => some 0x81
  | .sta, .izy => some 0x91
  | .stx, .zp => some 0x86
  | .stx, .zpy => some 0x96
  | .stx, .abs => some 0x8E
  | .sty, .zp => some 0x84
  | .sty, .zpx => some 0x94
  | .sty, .abs => some 0x8C
  | .tax, .imp => some 0xAA
  | .tay, .imp => some 0xA8
  | .txa, .imp => some 0x8A
  | .tya, .imp => some 0x98
  | .tsx, .imp => some 0xBA
  | .txs, .imp => some 0x9A
  | .adc, .imm => some 0x69
  | .adc, .zp => some 0x65
  | .adc, .zpx => some 0x75
  | .adc, .abs => some 0x6D
  | .adc, .abx => some 0x7D
  | .adc, .aby => some 0x79
  | .adc, .izx => some 0x61
  | .adc, .izy => some 0x71
  | .sbc, .imm => some 0xE9
  | .sbc, .zp => some 0xE5
  | .sbc, .zpx => some 0xF5
  | .sbc, .abs => some 0xED
  | .sbc, .abx => some 0xFD
  | .sbc, .aby => some 0xF9
  | .sbc, .izx => some 0xE1
  | .sbc, .izy => some 0xF1
  | .cmp, .imm => some 0xC9
  | .cmp, .zp => some 0xC5
  | .cmp, .zpx => some 0xD5
  | .cmp, .abs => some 0xCD
  | .cmp, .abx => some 0xDD
  | .cmp, .aby => some 0xD9
  | .cmp, .izx => some 0xC1
  | .cmp, .izy => some 0xD1
  | .cpx, .imm => some 0xE0
  | .cpx, .zp => some 0xE4
  | .cpx, .abs => some 0xEC
  | .cpy, .imm => some 0xC0
  | .cpy, .zp => some 0xC4
  | .cpy, .abs => some 0xCC
  | .inc, .zp => some 0xE6
  | .inc, .zpx => some 0xF6
  | .inc, .abs => some 0xEE
  | .inc, .abx => some 0xFE
  | .dec, .zp => some 0xC6
  | .dec, .zpx => some 0xD6
  | .dec, .abs => some 0xCE
  | .dec, .abx => some 0xDE
  | .inx, .imp => some 0xE8
  | .iny, .imp => some 0xC8
  | .dex, .imp => some 0xCA
  | .dey, .imp => some 0x88
  | .and, .imm => some 0x29
  | .and, .zp => some 0x25
  | .and, .zpx => some 0x35
  | .and, .abs => some 0x2D
  | .and, .abx => some 0x3D
  | .and, .aby => some 0x39
  | .and, .izx => some 0x21
  | .and, .izy => some 0x31
  | .ora, .imm => some 0x09
  | .ora, .zp => some 0x05
  | .ora, .zpx => some 0x15
  | .ora, .abs => some 0x0D
  | .ora, .abx => some 0x1D
  | .ora, .aby => some 0x19
  | .ora, .izx => some 0x01
  | .ora, .izy => some 0x11
  | .eor, .imm => some 0x49
  | .eor, .zp => some 0x45
  | .eor, .zpx => some 0x55
  | .eor, .abs => some 0x4D
  | .eor, .abx => some 0x5D
  | .eor, .aby => some 0x59
  | .eor, .izx => some 0x41
  | .eor, .izy => some 0x51
  | .bit, .zp => some 0x24
  | .bit, .abs => some 0x2C
  | .asl, .acc => some 0x0A
  | .asl, .zp => some 0x06
  | .asl, .zpx => some 0x16
  | .asl, .abs => some 0x0E
  | .asl, .abx => some 0x1E
  | .lsr, .acc => some 0x4A
  | .lsr, .zp => some 0x46
  | .lsr, .zpx => some 0x56
  | .lsr, .abs => some 0x4E
  | .lsr, .abx => some 0x5E
  | .rol, .acc => some 0x2A
  | .rol, .zp => some 0x26
  | .rol, .zpx => some 0x36
  | .rol, .abs => some 0x2E
  | .rol, .abx => some 0x3E
  | .ror, .acc => some 0x6A
  | .ror, .zp => some 0x66
  | .ror, .zpx => some 0x76
  | .ror, .abs => some 0x6E
  | .ror, .abx => some 0x7E
  | .pha, .imp => some 0x48
  | .pla, .imp => some 0x68
  | .php, .imp => some 0x08
  | .plp, .imp => some 0x28
  | .jmp, .abs => some 0x4C
  | .jmp, .ind => some 0x6C
  | .jsr, .abs => some 0x20
  | .rts, .imp => some 0x60
  | .bcc, .rel => some 0x90
  | .bcs, .rel => some 0xB0
  | .beq, .rel => some 0xF0
  | .bne, .rel => some 0xD0
  | .bmi, .rel => some 0x30
  | .bpl, .rel => some 0x10
  | .bvc, .rel => some 0x50
  | .bvs, .rel => some 0x70
  | .clc, .imp => some 0x18
  | .sec, .imp => some 0x38
  | .cld, .imp => some 0xD8
  | .sed, .imp => some 0xF8
  | .cli, .imp => some 0x58
  | .sei, .imp => some 0x78
  | .clv, .imp => some 0xB8
  | .nop, .imp => some 0xEA
  | .brk, .imp => some 0x00
  | .rti, .imp => some 0x40
  | _, _ => none

/-- A 16-bit address operand, low byte first (R33, R54). -/
def wordBytes (w : Word) : List Byte := [lo8 w, hi8 w]

/-- The operand bytes of an operand in memory (R51). -/
def MemRef.bytes : MemRef → List Byte
  | .zp b | .zpx b | .zpy b | .izx b | .izy b => [b]
  | .abs w | .abx w | .aby w => wordBytes w

/-- The operand bytes (R51). -/
def Operand.bytes : Operand → List Byte
  | .imp | .acc => []
  | .imm b | .rel b => [b]
  | .mem r => r.bytes
  | .ind w => wordBytes w

/-- The bytes of an instruction, the opcode first (R50, R51, R75). -/
def encode (i : Instr) : List Byte :=
  match opcodeOf i.mnemonic i.mode with
  | some op => op :: i.operand.bytes
  | none => []

end Sys2Proof
end

