-- ==== Sys2Proof/Machine/State.lean ====
section
/-! DEFINITION. The state of the machine (10_state.md R10 to R29), the reasons a step can stop, and the
state after reset. -/

namespace Sys2Proof.Machine

/-- Memory: the bytes that differ from what an unlisted address reads as, by rising address (20_memory.md
R30; `Memory.wf` in Ops.lean is the canonical form). -/
abbrev Memory := List Host.Cell

/-- The six physical flags of P (R16). Bits 5 and 4 of P have no storage (R21, R24). -/
structure Flags where
  /-- Negative, bit 7 (R23) -/
  n : Bool
  /-- Overflow, bit 6 (R22) -/
  v : Bool
  /-- Decimal, bit 3 (R20) -/
  d : Bool
  /-- Interrupt disable, bit 2 (R19) -/
  i : Bool
  /-- Zero, bit 1 (R18) -/
  z : Bool
  /-- Carry, bit 0 (R17) -/
  c : Bool
  deriving DecidableEq, Repr

/-- What the environment does at one boundary between two instructions (00_scope.md R8). -/
inductive Input where
  /-- the input lines as the processor finds them: RESET is asserted; an active-going edge of NMI has
  arrived since the last boundary; the IRQ line is active (R28, R175 to R177) -/
  | lines (reset nmiEdge irq : Bool)
  /-- a falling edge of SO (R180) -/
  | soEdge
  /-- a change of a device-owned memory location (R8 kind 5) -/
  | change (addr : Word) (v : Byte)
  deriving DecidableEq, Repr

/-- The whole machine. -/
structure State where
  /-- the accumulator (R11) -/
  a : Byte
  /-- the index register X (R12) -/
  x : Byte
  /-- the index register Y (R13) -/
  y : Byte
  /-- the stack pointer (R14) -/
  sp : Byte
  /-- the program counter (R15) -/
  pc : Word
  /-- the processor status (R16) -/
  p : Flags
  /-- the memory (R30) -/
  mem : Memory
  /-- the NMI edge latch (R28) -/
  nmiPending : Bool
  /-- MODEL: at the boundary right after a CLI, SEI or PLP, the I from before it (R178); none at every
  other boundary -/
  iWindow : Option Bool
  /-- MODEL: what the environment does at the coming boundaries (R8); when the list is at its end every
  line is quiet -/
  inputs : List Input
  /-- MODEL: the number of steps taken, which the free values are a function of (R6) -/
  draws : Nat
  /-- the parameters of R4; no step changes them -/
  params : Params
  /-- the parameter `Platform` of R4; no step changes it -/
  platform : Platform
  deriving DecidableEq, Repr

/-- Why a step stops with a fault. -/
inductive Fault where
  /-- raised by the step's fetch when the byte at the program counter is not one of the 151 valid
  opcodes (R74, D2). Safe: a real part does something there, and nothing about it can be proved. -/
  | illegalOpcode (op : Byte)
  deriving DecidableEq, Repr

/-- Why a step is refused. -/
inductive Refusal where
  /-- raised by an arm of `exec` whose instruction has no meaning yet; no arm of this model does. Safe. -/
  | notModelled (mnemonic : String)
  deriving DecidableEq, Repr

/-- What an instruction answers. -/
abbrev Result := Host.Outcome State Fault Refusal

/-- The machine right after RESET (R29, R200) with nothing placed in memory. SP is `ResetSP`, I is 1, no
NMI is pending and PC is the content of the RESET vector, which in a memory that lists nothing is $0000.
A, X, Y, N, V, D, Z, C have no stated value (R29, R201): DESIGN CHOICE 0, log entries 1 and 2. -/
def State.reset : State :=
  { a := 0x00
    x := 0x00
    y := 0x00
    sp := Params.nmos.resetSP
    pc := 0x0000
    p := { n := false, v := false, d := false, i := true, z := false, c := false }
    mem := []
    nmiPending := false
    iWindow := none
    inputs := []
    draws := 0
    params := Params.nmos
    platform := [] }

end Sys2Proof.Machine
end

