-- ==== Sys2Proof/Machine/Ops.lean ====
section
/-! DEFINITION. The named operations over memory and registers: memory accesses (20_memory.md R30 to R35),
the stack primitives (43_stack.md R130, R131), taking an exception (60_exceptions.md R172), the return from
one (R169), the RESET sequence (70_reset_and_hazards.md R200), the SO edge (R180) and the environment's
change of a device-owned location (00_scope.md R8). -/

namespace Sys2Proof.Machine

/-! ### Memory as data -/

/-- What an address that memory does not list reads as: DESIGN CHOICE $00, log entry 3 (the contents at
power-up are the open parameter `InitialMemory`, R4, D18). -/
def Memory.unlisted : Byte := 0x00

/-- The byte at an address. -/
def Memory.read : Memory → Nat → Byte
  | [], _ => Memory.unlisted
  | (a, v) :: rest, addr => if a = addr then v else Memory.read rest addr

/-- The byte's cell, or nothing where it equals what an unlisted address reads as. -/
def Memory.cell (addr : Nat) (v : Byte) : Memory := if v = Memory.unlisted then [] else [(addr, v)]

/-- The memory with one byte replaced, kept in canonical form. -/
def Memory.write : Memory → Nat → Byte → Memory
  | [], addr, v => Memory.cell addr v
  | (a, w) :: rest, addr, v =>
    if addr < a then Memory.cell addr v ++ (a, w) :: rest
    else if addr = a then Memory.cell addr v ++ rest
    else (a, w) :: Memory.write rest addr v

/-- Addresses at least `lo`, below 65536 and strictly rising, and no byte equal to what an unlisted
address reads as. -/
def Memory.wfFrom : Nat → Memory → Bool
  | _, [] => true
  | lo, (a, v) :: rest =>
    decide (lo ≤ a) && decide (a < 65536) && decide (v ≠ Memory.unlisted) && Memory.wfFrom (a + 1) rest

/-- The canonical form of memory. -/
def Memory.wf (m : Memory) : Bool := Memory.wfFrom 0 m

/-! ### The platform -/

/-- What an address is: the kind of the first region that holds it, RAM where none does (R4, R37, D18). -/
def kindAt : Platform → Word → RegionKind
  | [], _ => .ram
  | r :: rest, a => if r.first ≤ a ∧ a ≤ r.last then r.kind else kindAt rest a

/-- A read of the address returns the byte that memory holds (R32). -/
def holdsByte : RegionKind → Bool
  | .ram | .rom | .deviceMemory => true
  | .deviceRegister | .unmapped => false

/-- A write to the address changes the byte that memory holds (R32: a ROM ignores writes; what is written
to a device register goes to the device; a write to unmapped space is dropped). -/
def takesWrite : RegionKind → Bool
  | .ram | .deviceMemory => true
  | .rom | .deviceRegister | .unmapped => false

/-! ### Register writes -/

/-- `A <- v` -/
def State.setA (s : State) (v : Byte) : State := { s with a := v }

/-- `X <- v` -/
def State.setX (s : State) (v : Byte) : State := { s with x := v }

/-- `Y <- v` -/
def State.setY (s : State) (v : Byte) : State := { s with y := v }

/-- `SP <- v` -/
def State.setSp (s : State) (v : Byte) : State := { s with sp := v }

/-- `pc <- v` -/
def State.setPc (s : State) (v : Word) : State := { s with pc := v }

/-- All six flags. -/
def State.setP (s : State) (v : Flags) : State := { s with p := v }

/-- The memory as a whole. -/
def State.setMem (s : State) (v : Memory) : State := { s with mem := v }

/-- The NMI latch. -/
def State.setNmiPending (s : State) (v : Bool) : State := { s with nmiPending := v }

/-- The window of R178. -/
def State.setIWindow (s : State) (v : Option Bool) : State := { s with iWindow := v }

/-- `pc` past an instruction of `n` bytes, modulo 65536 (R15, R52). -/
def State.advance (s : State) (n : Nat) : State := s.setPc (s.pc + BitVec.ofNat 16 n)

/-! ### Memory accesses -/

/-- `MemRead(addr, 1)` of R32; `k` says what the byte is for, which tells apart the free values of one
step. A read changes nothing in the processor. -/
def State.read (s : State) (k : Config.Draw) (addr : Word) : Byte :=
  if holdsByte (kindAt s.platform addr) then s.mem.read addr.toNat else Config.freeByte s.draws k

/-- `MemWrite(addr, 1, v)` of R32. -/
def State.write (s : State) (addr : Word) (v : Byte) : State :=
  if takesWrite (kindAt s.platform addr) then s.setMem (s.mem.write addr.toNat v) else s

/-- `Read16` of R34: the low byte at `addr`, the high byte at the next address modulo 65536. It reads
vectors only. -/
def State.read16 (s : State) (addr : Word) : Word :=
  cat (s.read .vectorHi (addr + 1)) (s.read .vectorLo addr)

/-- `Read16ZP` of R35: the second byte's address wraps inside page zero. -/
def State.read16Zp (s : State) (zp : Byte) : Word :=
  cat (s.read .pointerHi (zext16 (zp + 1))) (s.read .pointerLo (zext16 zp))

/-! ### The stack -/

/-- The stack address `cat($01, SP)` (R14, R39). -/
def stackAddr (sp : Byte) : Word := cat 0x01 sp

/-- `Push` of R130. -/
def State.push (s : State) (v : Byte) : State :=
  let t := s.write (stackAddr s.sp) v
  t.setSp (t.sp - 1)

/-- `Pull` of R131: the byte and the state after. -/
def State.pull (s : State) (k : Config.Draw) : Byte × State :=
  let t := s.setSp (s.sp + 1)
  (t.read k (stackAddr t.sp), t)

/-- A 16-bit value on the stack: the high byte first, then the low byte (R33, R130). -/
def State.push16 (s : State) (w : Word) : State := (s.push (hi8 w)).push (lo8 w)

/-! ### P as a byte -/

/-- `Pbyte(b)` of R26: the byte pushed for P, with bit 5 set and the Break bit `b`. -/
def Flags.toByte (p : Flags) (b : Bool) : Byte :=
  u8 (bitValue p.n * 128 + bitValue p.v * 64 + 1 * 32 + bitValue b * 16 + bitValue p.d * 8 +
    bitValue p.i * 4 + bitValue p.z * 2 + bitValue p.c * 1)

/-- `SetP(v)` of R27: bits 5 and 4 are discarded. -/
def Flags.ofByte (v : Byte) : Flags :=
  { n := bit v 7, v := bit v 6, d := bit v 3, i := bit v 2, z := bit v 1, c := bit v 0 }

/-! ### Exceptions -/

/-- The NMI vector (R3, R171). -/
def vecNmi : Word := 0xFFFA

/-- The RESET vector. -/
def vecReset : Word := 0xFFFC

/-- The vector shared by IRQ and BRK. -/
def vecIrq : Word := 0xFFFE

/-- The flags on entry to a handler: I is set, D is cleared only where the part does so (R172, R174). -/
def Flags.entered (p : Flags) (clearD : Bool) : Flags :=
  { p with i := true, d := if clearD then false else p.d }

/-- `Interrupt(vector, b)` of R172, shared by BRK, IRQ entry and NMI entry: PC and P are pushed, I is set,
PC comes from the vector. -/
def State.interrupt (s : State) (vector : Word) (b : Bool) : State :=
  let s1 := s.push16 s.pc
  let s2 := s1.push (s1.p.toByte b)
  let s3 := s2.setP (s2.p.entered s2.params.clearDOnInterrupt)
  s3.setPc (s3.read16 vector)

/-- NMI entry (R175): the latch is cleared, then the sequence with B = 0. -/
def State.nmiEntry (s : State) : State := (s.setNmiPending false).interrupt vecNmi false

/-- IRQ entry (R176). -/
def State.irqEntry (s : State) : State := s.interrupt vecIrq false

/-- The return from an exception (R169, R181): P, then PCL, then PCH, and no + 1. -/
def State.returnFromInterrupt (s : State) : State :=
  let (pv, s1) := s.pull .pull1
  let (lo, s2) := (s1.setP (Flags.ofByte pv)).pull .pull2
  let (hi, s3) := s2.pull .pull3
  s3.setPc (cat hi lo)

/-- The RESET sequence (R200). A, X, Y, N, V, Z, C have no value afterwards and D is not initialised (R29,
R201): each is a free value; with `ClearDOnInterrupt` D is cleared. Nothing is written to memory. -/
def State.resetEntry (s : State) : State :=
  let p : Flags :=
    { n := Config.freeBit s.draws .resetN
      v := Config.freeBit s.draws .resetV
      d := if s.params.clearDOnInterrupt then false else Config.freeBit s.draws .resetD
      i := true
      z := Config.freeBit s.draws .resetZ
      c := Config.freeBit s.draws .resetC }
  let s1 := ((s.setA (Config.freeByte s.draws .resetA)).setX (Config.freeByte s.draws .resetX)).setY
    (Config.freeByte s.draws .resetY)
  let s2 := ((s1.setP p).setSp s1.params.resetSP).setNmiPending false
  (s2.setIWindow none).setPc (s2.read16 vecReset)

/-- A falling edge of SO (R180). -/
def State.soEdge (s : State) : State := s.setP { s.p with v := true }

/-- The environment's change of a device-owned memory location (R8 kind 5); at an address that is no
device-owned memory the environment owns nothing to change (log entry 10). -/
def State.deviceChange (s : State) (addr : Word) (v : Byte) : State :=
  if kindAt s.platform addr = .deviceMemory then s.setMem (s.mem.write addr.toNat v) else s

end Sys2Proof.Machine
end

