-- ==== Sys2Proof/Machine/Flags.lean ====
section
/-! DEFINITION. Every flag computation and every byte operation of the spec: `SetNZ` (10_state.md R25), binary
and decimal addition and subtraction (41_arithmetic.md R101 to R103), comparison (R104), increments (R107,
R108), BIT (42_logic_shift.md R123), the shifts and rotates (R124 to R127). -/

namespace Sys2Proof.Machine

/-- `SetNZ(v)` of R25. -/
def Flags.setNZ (p : Flags) (v : Byte) : Flags := { p with n := bit v 7, z := v == 0x00 }

/-- A result with the carry and the overflow it gives. -/
structure Sum where
  value : Byte
  carry : Bool
  overflow : Bool
  deriving DecidableEq, Repr

/-- Binary ADC (R101): the carry out of bit 7; V from the signs of the operands and of the result. -/
def addBinary (a m : Byte) (c : Bool) : Sum :=
  let sum := a.toNat + m.toNat + bitValue c
  let r := u8 sum
  { value := r
    carry := decide (sum > 255)
    overflow := (bit a 7 == bit m 7) && (bit r 7 != bit a 7) }

/-- Binary SBC (R103): C = 1 means no borrow. -/
def subBinary (a m : Byte) (c : Bool) : Sum :=
  let diff : Int := (a.toNat : Int) - (m.toNat : Int) - (1 - (bitValue c : Int))
  let r := u8Int diff
  { value := r
    carry := decide (0 ≤ diff)
    overflow := (bit a 7 != bit m 7) && (bit r 7 != bit a 7) }

/-- Both nibbles are decimal digits (R102). -/
def validBcd (b : Byte) : Bool := decide (b.toNat / 16 ≤ 9) && decide (b.toNat % 16 ≤ 9)

/-- `dec(b)` of R102. -/
def dec (b : Byte) : Nat := 10 * (b.toNat / 16) + b.toNat % 16

/-- `bcd(n)` of R102, for n up to 99. -/
def bcd (n : Nat) : Byte := u8 (16 * (n / 10) + n % 10)

/-- The value and the carry of a decimal ADC of valid BCD (R102). -/
def addDecimal (a m : Byte) (c : Bool) : Byte × Bool :=
  let t := dec a + dec m + bitValue c
  (bcd (t % 100), decide (t > 99))

/-- The value and the carry of a decimal SBC of valid BCD (R102); C = 1 means no borrow. -/
def subDecimal (a m : Byte) (c : Bool) : Byte × Bool :=
  let t : Int := (dec a : Int) - (dec m : Int) - (1 - (bitValue c : Int))
  (bcd (t % 100).toNat, decide (0 ≤ t))

/-- The flags after a compare of a register with an operand (R104 to R106). -/
def Flags.compare (p : Flags) (r m : Byte) : Flags :=
  ({ p with c := decide (m ≤ r) } : Flags).setNZ (u8Int ((r.toNat : Int) - (m.toNat : Int)))

/-- The flags after BIT (R123): N and V from the operand, Z from `A and M`. -/
def Flags.bitTest (p : Flags) (a m : Byte) : Flags :=
  { p with n := bit m 7, v := bit m 6, z := (a &&& m) == 0x00 }

/-! ### Operations that modify one byte: the result and the flags after it -/

/-- The operation of INC (R107). -/
def incByte (m : Byte) (p : Flags) : Byte × Flags :=
  let r := u8 (m.toNat + 1)
  (r, p.setNZ r)

/-- The operation of DEC (R108). -/
def decByte (m : Byte) (p : Flags) : Byte × Flags :=
  let r := u8Int ((m.toNat : Int) - 1)
  (r, p.setNZ r)

/-- The operation of ASL (R124). -/
def aslByte (m : Byte) (p : Flags) : Byte × Flags :=
  let r := u8 (m.toNat * 2)
  (r, ({ p with c := bit m 7 } : Flags).setNZ r)

/-- The operation of LSR (R125). -/
def lsrByte (m : Byte) (p : Flags) : Byte × Flags :=
  let r := u8 (m.toNat / 2)
  (r, ({ p with c := bit m 0 } : Flags).setNZ r)

/-- The operation of ROL (R126): the old C enters bit 0. -/
def rolByte (m : Byte) (p : Flags) : Byte × Flags :=
  let r := u8 (m.toNat * 2 % 256 + bitValue p.c)
  (r, ({ p with c := bit m 7 } : Flags).setNZ r)

/-- The operation of ROR (R127): the old C enters bit 7. -/
def rorByte (m : Byte) (p : Flags) : Byte × Flags :=
  let r := u8 (m.toNat / 2 + 128 * bitValue p.c)
  (r, ({ p with c := bit m 0 } : Flags).setNZ r)

end Sys2Proof.Machine
end

