-- ==== Sys2Proof/Machine/Operands.lean ====
section
/-! DEFINITION. The effective addresses of the addressing modes (30_encoding.md R60 to R72) and the operand
shapes the instructions share: each takes the operand, advances `pc` past the instruction (R52) and applies
the instruction's own effect. -/

namespace Sys2Proof.Machine

/-- `EA`, the effective address of an operand in memory. -/
def effectiveAddr : MemRef → State → Word
  /- R63 -/
  | .zp b, _ => zext16 b
  /- R64: the sum stays in page zero -/
  | .zpx b, s => zext16 (b + s.x)
  /- R65: the sum stays in page zero -/
  | .zpy b, s => zext16 (b + s.y)
  /- R66 -/
  | .abs w, _ => w
  /- R67: modulo 65536 -/
  | .abx w, s => w + zext16 s.x
  /- R68: modulo 65536 -/
  | .aby w, s => w + zext16 s.y
  /- R70: indexed in page zero, then indirect -/
  | .izx b, s => s.read16Zp (b + s.x)
  /- R71: indirect, then indexed modulo 65536 -/
  | .izy b, s => s.read16Zp b + zext16 s.y

/-- The address of the high byte of the pointer of JMP (ind) (R69): in the same page as the low byte on the
NMOS part. -/
def indirectHighAddr (s : State) (ptr : Word) : Word :=
  if s.params.jmpIndirectPageWrap then cat (hi8 ptr) (lo8 ptr + 1) else ptr + 1

/-- The target of JMP (ind) (R69). -/
def indirectTarget (s : State) (ptr : Word) : Word :=
  cat (s.read .pointerHi (indirectHighAddr s ptr)) (s.read .pointerLo ptr)

/-- The target of a branch (R72): `pc` is the address of the instruction that follows. -/
def branchTarget (pc : Word) (disp : Byte) : Word := pc + sext16 disp

/-- `M`, the operand byte at the effective address (R52). -/
def State.load (s : State) (r : MemRef) : Byte := s.read .data (effectiveAddr r s)

/-! ### The operand shapes -/

/-- An instruction with no operand, one byte long (R60). -/
def implied (f : State → State) (s : State) : Result := .next (f (s.advance 1))

/-- An instruction that reads an immediate operand (R62). -/
def readImm (b : Byte) (f : Byte → State → State) (s : State) : Result := .next (f b (s.advance 2))

/-- An instruction that reads its operand from memory. -/
def readMem (r : MemRef) (f : Byte → State → State) (s : State) : Result :=
  let t := s.advance r.mode.length
  .next (f (t.load r) t)

/-- An instruction that stores a register; the location is not read (R83). -/
def storeMem (r : MemRef) (v : State → Byte) (s : State) : Result :=
  let t := s.advance r.mode.length
  .next (t.write (effectiveAddr r t) (v t))

/-- An instruction that modifies a byte in memory: one read, then one write of the same address (R45). -/
def modifyMem (r : MemRef) (op : Byte → Flags → Byte × Flags) (s : State) : Result :=
  let t := s.advance r.mode.length
  let (v, p) := op (t.load r) t.p
  .next ((t.write (effectiveAddr r t) v).setP p)

/-- The same operation on A (R61). -/
def modifyAcc (op : Byte → Flags → Byte × Flags) (s : State) : Result :=
  let t := s.advance 1
  let (v, p) := op t.a t.p
  .next ((t.setA v).setP p)

/-- A conditional branch (R144). -/
def branchIf (cond : Flags → Bool) (disp : Byte) (s : State) : Result :=
  let t := s.advance 2
  .next (if cond t.p then t.setPc (branchTarget t.pc disp) else t)

end Sys2Proof.Machine
end

