-- ==== Sys2Proof/Machine/Arith.lean ====
section
/-! DEFINITION. Arithmetic, compares, increments and decrements: 41_arithmetic.md R100 to R112. -/

namespace Sys2Proof.Machine

/-- The state after a binary ADC or SBC: A, C, V, and N and Z of the result (R101, R103). -/
def setSum (r : Sum) (s : State) : State :=
  (s.setA r.value).setP (({ s.p with c := r.carry, v := r.overflow } : Flags).setNZ r.value)

/-- The state after a decimal ADC or SBC (R102) whose value and carry are `valid` where both operands are valid
BCD: otherwise A and C are free; N, Z and V are free in either case. -/
def setDecimal (m : Byte) (valid : Byte × Bool) (s : State) : State :=
  let (r, c) :=
    if validBcd s.a && validBcd m then valid
    else (Config.freeByte s.draws .decimalA, Config.freeBit s.draws .decimalC)
  (s.setA r).setP
    { s.p with
      c := c
      n := Config.freeBit s.draws .decimalN
      z := Config.freeBit s.draws .decimalZ
      v := Config.freeBit s.draws .decimalV }

/-- ADC and SBC are decimal (R101, R103). -/
def decimalMode (s : State) : Bool := s.p.d && s.params.decimalEnabled

/-! ### ADC (R101, R102) -/

/-- The effect of ADC. -/
def addWithCarry (m : Byte) (s : State) : State :=
  if decimalMode s then setDecimal m (addDecimal s.a m s.p.c) s
  else setSum (addBinary s.a m s.p.c) s

/-- ADC IMM, $69. -/
def execAdcImm (b : Byte) (s : State) : Result := readImm b addWithCarry s

/-- ADC ZP, $65. -/
def execAdcZp (b : Byte) (s : State) : Result := readMem (.zp b) addWithCarry s

/-- ADC ZPX, $75. -/
def execAdcZpx (b : Byte) (s : State) : Result := readMem (.zpx b) addWithCarry s

/-- ADC ABS, $6D. -/
def execAdcAbs (w : Word) (s : State) : Result := readMem (.abs w) addWithCarry s

/-- ADC ABX, $7D. -/
def execAdcAbx (w : Word) (s : State) : Result := readMem (.abx w) addWithCarry s

/-- ADC ABY, $79. -/
def execAdcAby (w : Word) (s : State) : Result := readMem (.aby w) addWithCarry s

/-- ADC IZX, $61. -/
def execAdcIzx (b : Byte) (s : State) : Result := readMem (.izx b) addWithCarry s

/-- ADC IZY, $71. -/
def execAdcIzy (b : Byte) (s : State) : Result := readMem (.izy b) addWithCarry s

/-! ### SBC (R103, R102) -/

/-- The effect of SBC. -/
def subtractWithCarry (m : Byte) (s : State) : State :=
  if decimalMode s then setDecimal m (subDecimal s.a m s.p.c) s
  else setSum (subBinary s.a m s.p.c) s

/-- SBC IMM, $E9. -/
def execSbcImm (b : Byte) (s : State) : Result := readImm b subtractWithCarry s

/-- SBC ZP, $E5. -/
def execSbcZp (b : Byte) (s : State) : Result := readMem (.zp b) subtractWithCarry s

/-- SBC ZPX, $F5. -/
def execSbcZpx (b : Byte) (s : State) : Result := readMem (.zpx b) subtractWithCarry s

/-- SBC ABS, $ED. -/
def execSbcAbs (w : Word) (s : State) : Result := readMem (.abs w) subtractWithCarry s

/-- SBC ABX, $FD. -/
def execSbcAbx (w : Word) (s : State) : Result := readMem (.abx w) subtractWithCarry s

/-- SBC ABY, $F9. -/
def execSbcAby (w : Word) (s : State) : Result := readMem (.aby w) subtractWithCarry s

/-- SBC IZX, $E1. -/
def execSbcIzx (b : Byte) (s : State) : Result := readMem (.izx b) subtractWithCarry s

/-- SBC IZY, $F1. -/
def execSbcIzy (b : Byte) (s : State) : Result := readMem (.izy b) subtractWithCarry s

/-! ### CMP (R104) -/

/-- Compares A with the operand: flags only. -/
def compareA (m : Byte) (s : State) : State := s.setP (s.p.compare s.a m)

/-- CMP IMM, $C9. -/
def execCmpImm (b : Byte) (s : State) : Result := readImm b compareA s

/-- CMP ZP, $C5. -/
def execCmpZp (b : Byte) (s : State) : Result := readMem (.zp b) compareA s

/-- CMP ZPX, $D5. -/
def execCmpZpx (b : Byte) (s : State) : Result := readMem (.zpx b) compareA s

/-- CMP ABS, $CD. -/
def execCmpAbs (w : Word) (s : State) : Result := readMem (.abs w) compareA s

/-- CMP ABX, $DD. -/
def execCmpAbx (w : Word) (s : State) : Result := readMem (.abx w) compareA s

/-- CMP ABY, $D9. -/
def execCmpAby (w : Word) (s : State) : Result := readMem (.aby w) compareA s

/-- CMP IZX, $C1. -/
def execCmpIzx (b : Byte) (s : State) : Result := readMem (.izx b) compareA s

/-- CMP IZY, $D1. -/
def execCmpIzy (b : Byte) (s : State) : Result := readMem (.izy b) compareA s

/-! ### CPX (R105) -/

/-- Compares X with the operand: flags only. -/
def compareX (m : Byte) (s : State) : State := s.setP (s.p.compare s.x m)

/-- CPX IMM, $E0. -/
def execCpxImm (b : Byte) (s : State) : Result := readImm b compareX s

/-- CPX ZP, $E4. -/
def execCpxZp (b : Byte) (s : State) : Result := readMem (.zp b) compareX s

/-- CPX ABS, $EC. -/
def execCpxAbs (w : Word) (s : State) : Result := readMem (.abs w) compareX s

/-! ### CPY (R106) -/

/-- Compares Y with the operand: flags only. -/
def compareY (m : Byte) (s : State) : State := s.setP (s.p.compare s.y m)

/-- CPY IMM, $C0. -/
def execCpyImm (b : Byte) (s : State) : Result := readImm b compareY s

/-- CPY ZP, $C4. -/
def execCpyZp (b : Byte) (s : State) : Result := readMem (.zp b) compareY s

/-- CPY ABS, $CC. -/
def execCpyAbs (w : Word) (s : State) : Result := readMem (.abs w) compareY s

/-! ### INC and DEC (R107, R108) -/

/-- INC ZP, $E6. -/
def execIncZp (b : Byte) (s : State) : Result := modifyMem (.zp b) incByte s

/-- INC ZPX, $F6. -/
def execIncZpx (b : Byte) (s : State) : Result := modifyMem (.zpx b) incByte s

/-- INC ABS, $EE. -/
def execIncAbs (w : Word) (s : State) : Result := modifyMem (.abs w) incByte s

/-- INC ABX, $FE. -/
def execIncAbx (w : Word) (s : State) : Result := modifyMem (.abx w) incByte s

/-- DEC ZP, $C6. -/
def execDecZp (b : Byte) (s : State) : Result := modifyMem (.zp b) decByte s

/-- DEC ZPX, $D6. -/
def execDecZpx (b : Byte) (s : State) : Result := modifyMem (.zpx b) decByte s

/-- DEC ABS, $CE. -/
def execDecAbs (w : Word) (s : State) : Result := modifyMem (.abs w) decByte s

/-- DEC ABX, $DE. -/
def execDecAbx (w : Word) (s : State) : Result := modifyMem (.abx w) decByte s

/-! ### INX, INY, DEX, DEY (R109 to R112) -/

/-- An index register's new value, and N and Z from it. -/
def stepX (op : Byte → Flags → Byte × Flags) (s : State) : State :=
  let (v, p) := op s.x s.p
  (s.setX v).setP p

/-- The same for Y. -/
def stepY (op : Byte → Flags → Byte × Flags) (s : State) : State :=
  let (v, p) := op s.y s.p
  (s.setY v).setP p

/-- INX IMP, $E8. -/
def execInx (s : State) : Result := implied (stepX incByte) s

/-- INY IMP, $C8. -/
def execIny (s : State) : Result := implied (stepY incByte) s

/-- DEX IMP, $CA. -/
def execDex (s : State) : Result := implied (stepX decByte) s

/-- DEY IMP, $88. -/
def execDey (s : State) : Result := implied (stepY decByte) s

end Sys2Proof.Machine
end

