-- ==== Sys2Proof/Machine/Control.lean ====
section
/-! DEFINITION. Jumps, subroutine call and return, conditional branches: 44_control_flow.md R140 to R152. -/

namespace Sys2Proof.Machine

/-! ### JMP, JSR, RTS (R141 to R143) -/

/-- JMP ABS, $4C. -/
def execJmpAbs (w : Word) (s : State) : Result := .next (s.setPc w)

/-- JMP IND, $6C. -/
def execJmpInd (w : Word) (s : State) : Result := .next (s.setPc (indirectTarget s w))

/-- JSR (R142), with `pc` past the instruction: the return address less 1 is pushed. -/
def callSubroutine (target : Word) (s : State) : State := (s.push16 (s.pc - 1)).setPc target

/-- JSR ABS, $20. -/
def execJsr (w : Word) (s : State) : Result := .next (callSubroutine w (s.advance 3))

/-- RTS (R143): PCL, then PCH, then + 1. -/
def returnFromSubroutine (s : State) : State :=
  let (lo, s1) := s.pull .pull1
  let (hi, s2) := s1.pull .pull2
  s2.setPc (cat hi lo + 1)

/-- RTS IMP, $60. -/
def execRts (s : State) : Result := implied returnFromSubroutine s

/-! ### The conditional branches (R144 to R152) -/

/-- The table of R144: which flag a branch tests, for which value. No other instruction branches on a condition. -/
def branchCondition : Mnemonic → Flags → Bool
  | .bcc, p => !p.c
  | .bcs, p => p.c
  | .beq, p => p.z
  | .bne, p => !p.z
  | .bmi, p => p.n
  | .bpl, p => !p.n
  | .bvc, p => !p.v
  | .bvs, p => p.v
  | _, _ => false

/-- BCC REL, $90. -/
def execBcc (b : Byte) (s : State) : Result := branchIf (branchCondition .bcc) b s

/-- BCS REL, $B0. -/
def execBcs (b : Byte) (s : State) : Result := branchIf (branchCondition .bcs) b s

/-- BEQ REL, $F0. -/
def execBeq (b : Byte) (s : State) : Result := branchIf (branchCondition .beq) b s

/-- BNE REL, $D0. -/
def execBne (b : Byte) (s : State) : Result := branchIf (branchCondition .bne) b s

/-- BMI REL, $30. -/
def execBmi (b : Byte) (s : State) : Result := branchIf (branchCondition .bmi) b s

/-- BPL REL, $10. -/
def execBpl (b : Byte) (s : State) : Result := branchIf (branchCondition .bpl) b s

/-- BVC REL, $50. -/
def execBvc (b : Byte) (s : State) : Result := branchIf (branchCondition .bvc) b s

/-- BVS REL, $70. -/
def execBvs (b : Byte) (s : State) : Result := branchIf (branchCondition .bvs) b s

end Sys2Proof.Machine
end

