-- ==== Sys2Proof/Machine/LoadStore.lean ====
section
/-! DEFINITION. Loads, stores and register transfers: 40_load_store_transfer.md R80 to R91. -/

namespace Sys2Proof.Machine

/-! ### LDA (R80) -/

/-- `A <- M; SetNZ(A)`. -/
def loadA (m : Byte) (s : State) : State := (s.setA m).setP (s.p.setNZ m)

/-- LDA IMM, $A9. -/
def execLdaImm (b : Byte) (s : State) : Result := readImm b loadA s

/-- LDA ZP, $A5. -/
def execLdaZp (b : Byte) (s : State) : Result := readMem (.zp b) loadA s

/-- LDA ZPX, $B5. -/
def execLdaZpx (b : Byte) (s : State) : Result := readMem (.zpx b) loadA s

/-- LDA ABS, $AD. -/
def execLdaAbs (w : Word) (s : State) : Result := readMem (.abs w) loadA s

/-- LDA ABX, $BD. -/
def execLdaAbx (w : Word) (s : State) : Result := readMem (.abx w) loadA s

/-- LDA ABY, $B9. -/
def execLdaAby (w : Word) (s : State) : Result := readMem (.aby w) loadA s

/-- LDA IZX, $A1. -/
def execLdaIzx (b : Byte) (s : State) : Result := readMem (.izx b) loadA s

/-- LDA IZY, $B1. -/
def execLdaIzy (b : Byte) (s : State) : Result := readMem (.izy b) loadA s

/-! ### LDX (R81) -/

/-- `X <- M; SetNZ(X)`. -/
def loadX (m : Byte) (s : State) : State := (s.setX m).setP (s.p.setNZ m)

/-- LDX IMM, $A2. -/
def execLdxImm (b : Byte) (s : State) : Result := readImm b loadX s

/-- LDX ZP, $A6. -/
def execLdxZp (b : Byte) (s : State) : Result := readMem (.zp b) loadX s

/-- LDX ZPY, $B6. -/
def execLdxZpy (b : Byte) (s : State) : Result := readMem (.zpy b) loadX s

/-- LDX ABS, $AE. -/
def execLdxAbs (w : Word) (s : State) : Result := readMem (.abs w) loadX s

/-- LDX ABY, $BE. -/
def execLdxAby (w : Word) (s : State) : Result := readMem (.aby w) loadX s

/-! ### LDY (R82) -/

/-- `Y <- M; SetNZ(Y)`. -/
def loadY (m : Byte) (s : State) : State := (s.setY m).setP (s.p.setNZ m)

/-- LDY IMM, $A0. -/
def execLdyImm (b : Byte) (s : State) : Result := readImm b loadY s

/-- LDY ZP, $A4. -/
def execLdyZp (b : Byte) (s : State) : Result := readMem (.zp b) loadY s

/-- LDY ZPX, $B4. -/
def execLdyZpx (b : Byte) (s : State) : Result := readMem (.zpx b) loadY s

/-- LDY ABS, $AC. -/
def execLdyAbs (w : Word) (s : State) : Result := readMem (.abs w) loadY s

/-- LDY ABX, $BC. -/
def execLdyAbx (w : Word) (s : State) : Result := readMem (.abx w) loadY s

/-! ### STA (R83) -/

/-- STA ZP, $85. -/
def execStaZp (b : Byte) (s : State) : Result := storeMem (.zp b) State.a s

/-- STA ZPX, $95. -/
def execStaZpx (b : Byte) (s : State) : Result := storeMem (.zpx b) State.a s

/-- STA ABS, $8D. -/
def execStaAbs (w : Word) (s : State) : Result := storeMem (.abs w) State.a s

/-- STA ABX, $9D. -/
def execStaAbx (w : Word) (s : State) : Result := storeMem (.abx w) State.a s

/-- STA ABY, $99. -/
def execStaAby (w : Word) (s : State) : Result := storeMem (.aby w) State.a s

/-- STA IZX, $81. -/
def execStaIzx (b : Byte) (s : State) : Result := storeMem (.izx b) State.a s

/-- STA IZY, $91. -/
def execStaIzy (b : Byte) (s : State) : Result := storeMem (.izy b) State.a s

/-! ### STX (R84) -/

/-- STX ZP, $86. -/
def execStxZp (b : Byte) (s : State) : Result := storeMem (.zp b) State.x s

/-- STX ZPY, $96. -/
def execStxZpy (b : Byte) (s : State) : Result := storeMem (.zpy b) State.x s

/-- STX ABS, $8E. -/
def execStxAbs (w : Word) (s : State) : Result := storeMem (.abs w) State.x s

/-! ### STY (R85) -/

/-- STY ZP, $84. -/
def execStyZp (b : Byte) (s : State) : Result := storeMem (.zp b) State.y s

/-- STY ZPX, $94. -/
def execStyZpx (b : Byte) (s : State) : Result := storeMem (.zpx b) State.y s

/-- STY ABS, $8C. -/
def execStyAbs (w : Word) (s : State) : Result := storeMem (.abs w) State.y s

/-! ### Transfers (R86 to R91) -/

/-- TAX IMP, $AA. -/
def execTax (s : State) : Result := implied (fun t => loadX t.a t) s

/-- TAY IMP, $A8. -/
def execTay (s : State) : Result := implied (fun t => loadY t.a t) s

/-- TXA IMP, $8A. -/
def execTxa (s : State) : Result := implied (fun t => loadA t.x t) s

/-- TYA IMP, $98. -/
def execTya (s : State) : Result := implied (fun t => loadA t.y t) s

/-- TSX IMP, $BA. -/
def execTsx (s : State) : Result := implied (fun t => loadX t.sp t) s

/-- `SP <- X`; no flag changes (R91). -/
def transferXToSp (s : State) : State := s.setSp s.x

/-- TXS IMP, $9A. -/
def execTxs (s : State) : Result := implied transferXToSp s

end Sys2Proof.Machine
end

