-- ==== Sys2Proof/Machine/Logic.lean ====
section
/-! DEFINITION. Logic, bit test, shifts and rotates: 42_logic_shift.md R120 to R127. -/

namespace Sys2Proof.Machine

/-- `A <- r; SetNZ(A)`. -/
def setLogic (r : Byte) (s : State) : State := (s.setA r).setP (s.p.setNZ r)

/-! ### AND (R120) -/

/-- The effect of AND. -/
def andA (m : Byte) (s : State) : State := setLogic (s.a &&& m) s

/-- AND IMM, $29. -/
def execAndImm (b : Byte) (s : State) : Result := readImm b andA s

/-- AND ZP, $25. -/
def execAndZp (b : Byte) (s : State) : Result := readMem (.zp b) andA s

/-- AND ZPX, $35. -/
def execAndZpx (b : Byte) (s : State) : Result := readMem (.zpx b) andA s

/-- AND ABS, $2D. -/
def execAndAbs (w : Word) (s : State) : Result := readMem (.abs w) andA s

/-- AND ABX, $3D. -/
def execAndAbx (w : Word) (s : State) : Result := readMem (.abx w) andA s

/-- AND ABY, $39. -/
def execAndAby (w : Word) (s : State) : Result := readMem (.aby w) andA s

/-- AND IZX, $21. -/
def execAndIzx (b : Byte) (s : State) : Result := readMem (.izx b) andA s

/-- AND IZY, $31. -/
def execAndIzy (b : Byte) (s : State) : Result := readMem (.izy b) andA s

/-! ### ORA (R121) -/

/-- The effect of ORA. -/
def orA (m : Byte) (s : State) : State := setLogic (s.a ||| m) s

/-- ORA IMM, $09. -/
def execOraImm (b : Byte) (s : State) : Result := readImm b orA s

/-- ORA ZP, $05. -/
def execOraZp (b : Byte) (s : State) : Result := readMem (.zp b) orA s

/-- ORA ZPX, $15. -/
def execOraZpx (b : Byte) (s : State) : Result := readMem (.zpx b) orA s

/-- ORA ABS, $0D. -/
def execOraAbs (w : Word) (s : State) : Result := readMem (.abs w) orA s

/-- ORA ABX, $1D. -/
def execOraAbx (w : Word) (s : State) : Result := readMem (.abx w) orA s

/-- ORA ABY, $19. -/
def execOraAby (w : Word) (s : State) : Result := readMem (.aby w) orA s

/-- ORA IZX, $01. -/
def execOraIzx (b : Byte) (s : State) : Result := readMem (.izx b) orA s

/-- ORA IZY, $11. -/
def execOraIzy (b : Byte) (s : State) : Result := readMem (.izy b) orA s

/-! ### EOR (R122) -/

/-- The effect of EOR. -/
def eorA (m : Byte) (s : State) : State := setLogic (s.a ^^^ m) s

/-- EOR IMM, $49. -/
def execEorImm (b : Byte) (s : State) : Result := readImm b eorA s

/-- EOR ZP, $45. -/
def execEorZp (b : Byte) (s : State) : Result := readMem (.zp b) eorA s

/-- EOR ZPX, $55. -/
def execEorZpx (b : Byte) (s : State) : Result := readMem (.zpx b) eorA s

/-- EOR ABS, $4D. -/
def execEorAbs (w : Word) (s : State) : Result := readMem (.abs w) eorA s

/-- EOR ABX, $5D. -/
def execEorAbx (w : Word) (s : State) : Result := readMem (.abx w) eorA s

/-- EOR ABY, $59. -/
def execEorAby (w : Word) (s : State) : Result := readMem (.aby w) eorA s

/-- EOR IZX, $41. -/
def execEorIzx (b : Byte) (s : State) : Result := readMem (.izx b) eorA s

/-- EOR IZY, $51. -/
def execEorIzy (b : Byte) (s : State) : Result := readMem (.izy b) eorA s

/-! ### BIT (R123) -/

/-- The effect of BIT: flags only. -/
def testBits (m : Byte) (s : State) : State := s.setP (s.p.bitTest s.a m)

/-- BIT ZP, $24. -/
def execBitZp (b : Byte) (s : State) : Result := readMem (.zp b) testBits s

/-- BIT ABS, $2C. -/
def execBitAbs (w : Word) (s : State) : Result := readMem (.abs w) testBits s

/-! ### Shifts and rotates (R124 to R127) -/

/-- ASL ACC, $0A. -/
def execAslAcc (s : State) : Result := modifyAcc aslByte s

/-- ASL ZP, $06. -/
def execAslZp (b : Byte) (s : State) : Result := modifyMem (.zp b) aslByte s

/-- ASL ZPX, $16. -/
def execAslZpx (b : Byte) (s : State) : Result := modifyMem (.zpx b) aslByte s

/-- ASL ABS, $0E. -/
def execAslAbs (w : Word) (s : State) : Result := modifyMem (.abs w) aslByte s

/-- ASL ABX, $1E. -/
def execAslAbx (w : Word) (s : State) : Result := modifyMem (.abx w) aslByte s

/-- LSR ACC, $4A. -/
def execLsrAcc (s : State) : Result := modifyAcc lsrByte s

/-- LSR ZP, $46. -/
def execLsrZp (b : Byte) (s : State) : Result := modifyMem (.zp b) lsrByte s

/-- LSR ZPX, $56. -/
def execLsrZpx (b : Byte) (s : State) : Result := modifyMem (.zpx b) lsrByte s

/-- LSR ABS, $4E. -/
def execLsrAbs (w : Word) (s : State) : Result := modifyMem (.abs w) lsrByte s

/-- LSR ABX, $5E. -/
def execLsrAbx (w : Word) (s : State) : Result := modifyMem (.abx w) lsrByte s

/-- ROL ACC, $2A. -/
def execRolAcc (s : State) : Result := modifyAcc rolByte s

/-- ROL ZP, $26. -/
def execRolZp (b : Byte) (s : State) : Result := modifyMem (.zp b) rolByte s

/-- ROL ZPX, $36. -/
def execRolZpx (b : Byte) (s : State) : Result := modifyMem (.zpx b) rolByte s

/-- ROL ABS, $2E. -/
def execRolAbs (w : Word) (s : State) : Result := modifyMem (.abs w) rolByte s

/-- ROL ABX, $3E. -/
def execRolAbx (w : Word) (s : State) : Result := modifyMem (.abx w) rolByte s

/-- ROR ACC, $6A. -/
def execRorAcc (s : State) : Result := modifyAcc rorByte s

/-- ROR ZP, $66. -/
def execRorZp (b : Byte) (s : State) : Result := modifyMem (.zp b) rorByte s

/-- ROR ZPX, $76. -/
def execRorZpx (b : Byte) (s : State) : Result := modifyMem (.zpx b) rorByte s

/-- ROR ABS, $6E. -/
def execRorAbs (w : Word) (s : State) : Result := modifyMem (.abs w) rorByte s

/-- ROR ABX, $7E. -/
def execRorAbx (w : Word) (s : State) : Result := modifyMem (.abx w) rorByte s

end Sys2Proof.Machine
end

