-- ==== Sys2Proof/Machine/Stack.lean ====
section
/-! DEFINITION. PHA, PLA, PHP, PLP: 43_stack.md R132 to R135. -/

namespace Sys2Proof.Machine

/-- `Push(A)` (R132). -/
def pushA (s : State) : State := s.push s.a

/-- PHA IMP, $48. -/
def execPha (s : State) : Result := implied pushA s

/-- `A <- Pull(); SetNZ(A)` (R133). -/
def pullA (s : State) : State :=
  let (v, t) := s.pull .pull1
  (t.setA v).setP (t.p.setNZ v)

/-- PLA IMP, $68. -/
def execPla (s : State) : Result := implied pullA s

/-- `Push(Pbyte(1))` (R134). -/
def pushP (s : State) : State := s.push (s.p.toByte true)

/-- PHP IMP, $08. -/
def execPhp (s : State) : Result := implied pushP s

/-- `SetP(Pull())` (R135); the I from before gates an IRQ at the next boundary or does not (R178). -/
def pullP (s : State) : State :=
  let (v, t) := s.pull .pull1
  (t.setP (Flags.ofByte v)).setIWindow (some s.p.i)

/-- PLP IMP, $28. -/
def execPlp (s : State) : Result := implied pullP s

end Sys2Proof.Machine
end

