-- ==== Sys2Proof/Machine/System.lean ====
section
/-! DEFINITION. Flag instructions, NOP, BRK and RTI: 45_flags_system.md R160 to R169. -/

namespace Sys2Proof.Machine

/-! ### Flag instructions (R160 to R166) -/

/-- CLC IMP, $18. -/
def execClc (s : State) : Result := implied (fun t => t.setP { t.p with c := false }) s

/-- SEC IMP, $38. -/
def execSec (s : State) : Result := implied (fun t => t.setP { t.p with c := true }) s

/-- CLD IMP, $D8. -/
def execCld (s : State) : Result := implied (fun t => t.setP { t.p with d := false }) s

/-- SED IMP, $F8. -/
def execSed (s : State) : Result := implied (fun t => t.setP { t.p with d := true }) s

/-- CLI and SEI: I is written, and at the next boundary the I from before may gate an IRQ instead (R164, R165,
R178). -/
def setI (v : Bool) (s : State) : State := (s.setP { s.p with i := v }).setIWindow (some s.p.i)

/-- CLI IMP, $58. -/
def execCli (s : State) : Result := implied (setI false) s

/-- SEI IMP, $78. -/
def execSei (s : State) : Result := implied (setI true) s

/-- CLV IMP, $B8. -/
def execClv (s : State) : Result := implied (fun t => t.setP { t.p with v := false }) s

/-! ### NOP, BRK, RTI (R167 to R169) -/

/-- NOP IMP, $EA. -/
def execNop (s : State) : Result := implied id s

/-- BRK (R168), with `pc` past the opcode byte: the padding byte is skipped and the exception is taken with B = 1. -/
def breakException (s : State) : State := (s.advance 1).interrupt vecIrq true

/-- BRK IMP, $00. -/
def execBrk (s : State) : Result := implied breakException s

/-- RTI IMP, $40. -/
def execRti (s : State) : Result := implied State.returnFromInterrupt s

end Sys2Proof.Machine
end

