-- ==== Sys2Proof/Machine/Dispatch.lean ====
section
/-! DEFINITION. What each instruction does: one arm for each constructor of `Instr`, one direct call. -/

namespace Sys2Proof.Machine

/-- The instruction executed at a state whose `pc` is the address of its opcode byte (30_encoding.md R52). -/
def exec (i : Instr) (s : State) : Host.Outcome State Fault Refusal :=
  match i with
  | .ldaImm b => Sys2Proof.Machine.execLdaImm b s
  | .ldaZp b => Sys2Proof.Machine.execLdaZp b s
  | .ldaZpx b => Sys2Proof.Machine.execLdaZpx b s
  | .ldaAbs w => Sys2Proof.Machine.execLdaAbs w s
  | .ldaAbx w => Sys2Proof.Machine.execLdaAbx w s
  | .ldaAby w => Sys2Proof.Machine.execLdaAby w s
  | .ldaIzx b => Sys2Proof.Machine.execLdaIzx b s
  | .ldaIzy b => Sys2Proof.Machine.execLdaIzy b s
  | .ldxImm b => Sys2Proof.Machine.execLdxImm b s
  | .ldxZp b => Sys2Proof.Machine.execLdxZp b s
  | .ldxZpy b => Sys2Proof.Machine.execLdxZpy b s
  | .ldxAbs w => Sys2Proof.Machine.execLdxAbs w s
  | .ldxAby w => Sys2Proof.Machine.execLdxAby w s
  | .ldyImm b => Sys2Proof.Machine.execLdyImm b s
  | .ldyZp b => Sys2Proof.Machine.execLdyZp b s
  | .ldyZpx b => Sys2Proof.Machine.execLdyZpx b s
  | .ldyAbs w => Sys2Proof.Machine.execLdyAbs w s
  | .ldyAbx w => Sys2Proof.Machine.execLdyAbx w s
  | .staZp b => Sys2Proof.Machine.execStaZp b s
  | .staZpx b => Sys2Proof.Machine.execStaZpx b s
  | .staAbs w => Sys2Proof.Machine.execStaAbs w s
  | .staAbx w => Sys2Proof.Machine.execStaAbx w s
  | .staAby w => Sys2Proof.Machine.execStaAby w s
  | .staIzx b => Sys2Proof.Machine.execStaIzx b s
  | .staIzy b => Sys2Proof.Machine.execStaIzy b s
  | .stxZp b => Sys2Proof.Machine.execStxZp b s
  | .stxZpy b => Sys2Proof.Machine.execStxZpy b s
  | .stxAbs w => Sys2Proof.Machine.execStxAbs w s
  | .styZp b => Sys2Proof.Machine.execStyZp b s
  | .styZpx b => Sys2Proof.Machine.execStyZpx b s
  | .styAbs w => Sys2Proof.Machine.execStyAbs w s
  | .tax => Sys2Proof.Machine.execTax s
  | .tay => Sys2Proof.Machine.execTay s
  | .txa => Sys2Proof.Machine.execTxa s
  | .tya => Sys2Proof.Machine.execTya s
  | .tsx => Sys2Proof.Machine.execTsx s
  | .txs => Sys2Proof.Machine.execTxs s
  | .adcImm b => Sys2Proof.Machine.execAdcImm b s
  | .adcZp b => Sys2Proof.Machine.execAdcZp b s
  | .adcZpx b => Sys2Proof.Machine.execAdcZpx b s
  | .adcAbs w => Sys2Proof.Machine.execAdcAbs w s
  | .adcAbx w => Sys2Proof.Machine.execAdcAbx w s
  | .adcAby w => Sys2Proof.Machine.execAdcAby w s
  | .adcIzx b => Sys2Proof.Machine.execAdcIzx b s
  | .adcIzy b => Sys2Proof.Machine.execAdcIzy b s
  | .sbcImm b => Sys2Proof.Machine.execSbcImm b s
  | .sbcZp b => Sys2Proof.Machine.execSbcZp b s
  | .sbcZpx b => Sys2Proof.Machine.execSbcZpx b s
  | .sbcAbs w => Sys2Proof.Machine.execSbcAbs w s
  | .sbcAbx w => Sys2Proof.Machine.execSbcAbx w s
  | .sbcAby w => Sys2Proof.Machine.execSbcAby w s
  | .sbcIzx b => Sys2Proof.Machine.execSbcIzx b s
  | .sbcIzy b => Sys2Proof.Machine.execSbcIzy b s
  | .cmpImm b => Sys2Proof.Machine.execCmpImm b s
  | .cmpZp b => Sys2Proof.Machine.execCmpZp b s
  | .cmpZpx b => Sys2Proof.Machine.execCmpZpx b s
  | .cmpAbs w => Sys2Proof.Machine.execCmpAbs w s
  | .cmpAbx w => Sys2Proof.Machine.execCmpAbx w s
  | .cmpAby w => Sys2Proof.Machine.execCmpAby w s
  | .cmpIzx b => Sys2Proof.Machine.execCmpIzx b s
  | .cmpIzy b => Sys2Proof.Machine.execCmpIzy b s
  | .cpxImm b => Sys2Proof.Machine.execCpxImm b s
  | .cpxZp b => Sys2Proof.Machine.execCpxZp b s
  | .cpxAbs w => Sys2Proof.Machine.execCpxAbs w s
  | .cpyImm b => Sys2Proof.Machine.execCpyImm b s
  | .cpyZp b => Sys2Proof.Machine.execCpyZp b s
  | .cpyAbs w => Sys2Proof.Machine.execCpyAbs w s
  | .incZp b => Sys2Proof.Machine.execIncZp b s
  | .incZpx b => Sys2Proof.Machine.execIncZpx b s
  | .incAbs w => Sys2Proof.Machine.execIncAbs w s
  | .incAbx w => Sys2Proof.Machine.execIncAbx w s
  | .decZp b => Sys2Proof.Machine.execDecZp b s
  | .decZpx b => Sys2Proof.Machine.execDecZpx b s
  | .decAbs w => Sys2Proof.Machine.execDecAbs w s
  | .decAbx w => Sys2Proof.Machine.execDecAbx w s
  | .inx => Sys2Proof.Machine.execInx s
  | .iny => Sys2Proof.Machine.execIny s
  | .dex => Sys2Proof.Machine.execDex s
  | .dey => Sys2Proof.Machine.execDey s
  | .andImm b => Sys2Proof.Machine.execAndImm b s
  | .andZp b => Sys2Proof.Machine.execAndZp b s
  | .andZpx b => Sys2Proof.Machine.execAndZpx b s
  | .andAbs w => Sys2Proof.Machine.execAndAbs w s
  | .andAbx w => Sys2Proof.Machine.execAndAbx w s
  | .andAby w => Sys2Proof.Machine.execAndAby w s
  | .andIzx b => Sys2Proof.Machine.execAndIzx b s
  | .andIzy b => Sys2Proof.Machine.execAndIzy b s
  | .oraImm b => Sys2Proof.Machine.execOraImm b s
  | .oraZp b => Sys2Proof.Machine.execOraZp b s
  | .oraZpx b => Sys2Proof.Machine.execOraZpx b s
  | .oraAbs w => Sys2Proof.Machine.execOraAbs w s
  | .oraAbx w => Sys2Proof.Machine.execOraAbx w s
  | .oraAby w => Sys2Proof.Machine.execOraAby w s
  | .oraIzx b => Sys2Proof.Machine.execOraIzx b s
  | .oraIzy b => Sys2Proof.Machine.execOraIzy b s
  | .eorImm b => Sys2Proof.Machine.execEorImm b s
  | .eorZp b => Sys2Proof.Machine.execEorZp b s
  | .eorZpx b => Sys2Proof.Machine.execEorZpx b s
  | .eorAbs w => Sys2Proof.Machine.execEorAbs w s
  | .eorAbx w => Sys2Proof.Machine.execEorAbx w s
  | .eorAby w => Sys2Proof.Machine.execEorAby w s
  | .eorIzx b => Sys2Proof.Machine.execEorIzx b s
  | .eorIzy b => Sys2Proof.Machine.execEorIzy b s
  | .bitZp b => Sys2Proof.Machine.execBitZp b s
  | .bitAbs w => Sys2Proof.Machine.execBitAbs w s
  | .aslAcc => Sys2Proof.Machine.execAslAcc s
  | .aslZp b => Sys2Proof.Machine.execAslZp b s
  | .aslZpx b => Sys2Proof.Machine.execAslZpx b s
  | .aslAbs w => Sys2Proof.Machine.execAslAbs w s
  | .aslAbx w => Sys2Proof.Machine.execAslAbx w s
  | .lsrAcc => Sys2Proof.Machine.execLsrAcc s
  | .lsrZp b => Sys2Proof.Machine.execLsrZp b s
  | .lsrZpx b => Sys2Proof.Machine.execLsrZpx b s
  | .lsrAbs w => Sys2Proof.Machine.execLsrAbs w s
  | .lsrAbx w => Sys2Proof.Machine.execLsrAbx w s
  | .rolAcc => Sys2Proof.Machine.execRolAcc s
  | .rolZp b => Sys2Proof.Machine.execRolZp b s
  | .rolZpx b => Sys2Proof.Machine.execRolZpx b s
  | .rolAbs w => Sys2Proof.Machine.execRolAbs w s
  | .rolAbx w => Sys2Proof.Machine.execRolAbx w s
  | .rorAcc => Sys2Proof.Machine.execRorAcc s
  | .rorZp b => Sys2Proof.Machine.execRorZp b s
  | .rorZpx b => Sys2Proof.Machine.execRorZpx b s
  | .rorAbs w => Sys2Proof.Machine.execRorAbs w s
  | .rorAbx w => Sys2Proof.Machine.execRorAbx w s
  | .pha => Sys2Proof.Machine.execPha s
  | .pla => Sys2Proof.Machine.execPla s
  | .php => Sys2Proof.Machine.execPhp s
  | .plp => Sys2Proof.Machine.execPlp s
  | .jmpAbs w => Sys2Proof.Machine.execJmpAbs w s
  | .jmpInd w => Sys2Proof.Machine.execJmpInd w s
  | .jsr w => Sys2Proof.Machine.execJsr w s
  | .rts => Sys2Proof.Machine.execRts s
  | .bcc b => Sys2Proof.Machine.execBcc b s
  | .bcs b => Sys2Proof.Machine.execBcs b s
  | .beq b => Sys2Proof.Machine.execBeq b s
  | .bne b => Sys2Proof.Machine.execBne b s
  | .bmi b => Sys2Proof.Machine.execBmi b s
  | .bpl b => Sys2Proof.Machine.execBpl b s
  | .bvc b => Sys2Proof.Machine.execBvc b s
  | .bvs b => Sys2Proof.Machine.execBvs b s
  | .clc => Sys2Proof.Machine.execClc s
  | .sec => Sys2Proof.Machine.execSec s
  | .cld => Sys2Proof.Machine.execCld s
  | .sed => Sys2Proof.Machine.execSed s
  | .cli => Sys2Proof.Machine.execCli s
  | .sei => Sys2Proof.Machine.execSei s
  | .clv => Sys2Proof.Machine.execClv s
  | .nop => Sys2Proof.Machine.execNop s
  | .brk => Sys2Proof.Machine.execBrk s
  | .rti => Sys2Proof.Machine.execRti s

end Sys2Proof.Machine
end

