-- ==== Sys2Proof/Machine/Events.lean ====
section
/-! DEFINITION. What happens at the boundary between two instructions (00_scope.md R8; 60_exceptions.md R175
to R180), and the fetch of an instruction (30_encoding.md R52). -/

namespace Sys2Proof.Machine

/-- What a step is (R8). -/
inductive Event where
  /-- one RESET (R200) -/
  | reset
  /-- one SO falling edge (R180) -/
  | soEdge
  /-- one environment change of a device-owned memory location -/
  | change (addr : Word) (v : Byte)
  /-- one NMI entry (R175) -/
  | nmi
  /-- one IRQ entry (R176) -/
  | irq
  /-- one whole instruction (R52) -/
  | instruction
  deriving DecidableEq, Repr

/-- What the environment does at this boundary: the next input, every line quiet where there is none. -/
def State.input (s : State) : Input :=
  match s.inputs with
  | [] => .lines false false false
  | e :: _ => e

/-- An NMI edge has arrived since the last boundary. -/
def Input.nmiEdge : Input → Bool
  | .lines _ edge _ => edge
  | .soEdge => false
  | .change _ _ => false

/-- `I_eff` of R178: at the boundary right after CLI, SEI or PLP the old or the new I, freely; else P.I. -/
def State.effectiveI (s : State) : Bool :=
  match s.iWindow with
  | none => s.p.i
  | some old => if Config.freeBit s.draws .gate then old else s.p.i

/-- Which step the boundary takes: RESET, then NMI, then IRQ, else the instruction (R177, R179). -/
def State.event (s : State) : Event :=
  match s.input with
  | .soEdge => .soEdge
  | .change addr v => .change addr v
  | .lines reset edge irq =>
    if reset then .reset
    else if s.nmiPending || edge then .nmi
    else if irq && !s.effectiveI then .irq
    else .instruction

/-- The boundary passed: its input is consumed, an NMI edge is latched (R28, R175), and the next free values
are fresh ones. -/
def State.arrive (s : State) : State :=
  { s with
    inputs := s.inputs.tail
    nmiPending := s.nmiPending || s.input.nmiEdge
    draws := s.draws + 1 }

/-- The state in which the processor acts at a boundary: R178's window, which is that one boundary, is over. -/
def State.ready (s : State) : State := s.arrive.setIWindow none

/-- The opcode byte at `pc` (R52). -/
def State.opcode (s : State) : Byte := s.read .opcode s.pc

/-- The instruction at `pc`: the opcode byte, then as many operand bytes as it has, at rising addresses
modulo 65536 (R50, R52); none for an opcode byte that is not valid (R74). -/
def State.fetch (s : State) : Option Instr :=
  match lookup s.opcode with
  | none => none
  | some (.f1 i) => some i
  | some (.f2 k) => some (k (s.read .operandLo (s.pc + 1)))
  | some (.f3 k) => some (k (cat (s.read .operandHi (s.pc + 2)) (s.read .operandLo (s.pc + 1))))

/-! ### Placing an instruction where it is fetched -/

/-- One byte placed in memory from outside the machine (R202, R212), so that a read of the address returns
it: where the platform holds no byte there, that one address becomes RAM. -/
def State.place (s : State) (addr : Word) (v : Byte) : State :=
  let t := s.setMem (s.mem.write addr.toNat v)
  if holdsByte (kindAt s.platform addr) then t
  else { t with platform := { first := addr, last := addr, kind := .ram } :: t.platform }

/-- Every input line quiet and no NMI latched, so that the next step is the instruction at `pc`. -/
def State.quiet (s : State) : State := { s with inputs := [], nmiPending := false }

end Sys2Proof.Machine
end

