-- ==== Sys2Proof/Machine/Step.lean ====
section
/-! DEFINITION. One step of the machine (00_scope.md R8). -/

namespace Sys2Proof.Machine

/-- One whole instruction (30_encoding.md R52): fetched at `pc` and executed; a byte that is not a valid
opcode is a fault (R74). -/
def runInstruction (s : State) : Host.Outcome State Fault Refusal :=
  match s.fetch with
  | some i => exec i s
  | none => .fault (.illegalOpcode s.opcode)

/-- One step (R8): what the boundary gives it to do. -/
def step (s : State) : Host.Outcome State Fault Refusal :=
  match s.event with
  | .reset => .next s.arrive.resetEntry
  | .soEdge => .next s.arrive.soEdge
  | .change addr v => .next (s.arrive.deviceChange addr v)
  | .nmi => .next s.ready.nmiEntry
  | .irq => .next s.ready.irqEntry
  | .instruction => runInstruction s.ready

/-- The state with an instruction's three bytes placed at `pc` and nothing to come before it. The bits of
`w` from `nbits` up are 0. -/
def State.withFetchWord (s : State) (nbits w : Nat) : State :=
  let v := w % 2 ^ nbits
  (((s.quiet.place s.pc (u8 v)).place (s.pc + 1) (u8 (v / 256))).place (s.pc + 2) (u8 (v / 65536)))

end Sys2Proof.Machine
end

