-- ==== Sys2Proof/Machine/Accesses.lean ====
section
/-! DEFINITION. Which memory accesses an instruction, an interrupt entry and a RESET perform, in order
(20_memory.md R43, R48; 30_encoding.md R52). These lists are read beside `exec`; `exec` does not use them. -/

namespace Sys2Proof.Machine

/-- One access of one byte (R32). -/
inductive Access where
  | read (addr : Word)
  | write (addr : Word) (v : Byte)
  deriving DecidableEq, Repr

/-- What an access does to the machine: a read does nothing to it. -/
def Access.apply (s : State) : Access → State
  | .read _ => s
  | .write addr v => s.write addr v

/-- What an instruction does with an operand in memory. -/
inductive MemUse where
  /-- reads it -/
  | reads
  /-- writes it without reading it (R83 to R85) -/
  | stores
  /-- reads it, then writes it (R45) -/
  | modifies
  /-- takes its address as a target and accesses no data there (R66) -/
  | targets
  /-- has no operand in memory -/
  | never
  deriving DecidableEq, Repr

/-- The use each instruction makes of an operand in memory. -/
def memUse : Mnemonic → MemUse
  | .lda | .ldx | .ldy | .adc | .sbc | .cmp | .cpx | .cpy | .and | .ora | .eor | .bit => .reads
  | .sta | .stx | .sty => .stores
  | .inc | .dec | .asl | .lsr | .rol | .ror => .modifies
  | .jmp | .jsr => .targets
  | .tax | .tay | .txa | .tya | .tsx | .txs | .inx | .iny | .dex | .dey => .never
  | .pha | .pla | .php | .plp | .rts | .rti | .brk | .nop => .never
  | .bcc | .bcs | .beq | .bne | .bmi | .bpl | .bvc | .bvs => .never
  | .clc | .sec | .cld | .sed | .cli | .sei | .clv => .never

/-- The fetch of an instruction's own bytes, at rising addresses modulo 65536 (R52). -/
def fetchAccesses (i : Instr) (s : State) : List Access :=
  (List.range i.length).map fun k => .read (s.pc + BitVec.ofNat 16 k)

/-- The reads of a page-zero pointer, low byte first (R35). -/
def pointerReads (zp : Byte) : List Access := [.read (zext16 zp), .read (zext16 (zp + 1))]

/-- The reads that compute an effective address (R70, R71). -/
def addressReads : MemRef → State → List Access
  | .izx b, s => pointerReads (b + s.x)
  | .izy b, _ => pointerReads b
  | .zp _, _ | .zpx _, _ | .zpy _, _ | .abs _, _ | .abx _, _ | .aby _, _ => []

/-- What an instruction writes to its operand in memory: the register it stores, or the byte it makes of
the one it read. -/
def writtenByte (m : Mnemonic) (old : Byte) (s : State) : Byte :=
  match m with
  | .sta => s.a
  | .stx => s.x
  | .sty => s.y
  | .inc => (incByte old s.p).1
  | .dec => (decByte old s.p).1
  | .asl => (aslByte old s.p).1
  | .lsr => (lsrByte old s.p).1
  | .rol => (rolByte old s.p).1
  | .ror => (rorByte old s.p).1
  | _ => old

/-- The pushes of two bytes (R130). -/
def push16Accesses (w : Word) (s : State) : List Access :=
  [.write (stackAddr s.sp) (hi8 w), .write (stackAddr (s.sp - 1)) (lo8 w)]

/-- The reads of a vector (R34, R171). -/
def vectorReads (vector : Word) : List Access := [.read vector, .read (vector + 1)]

/-- The accesses of `Interrupt(vector, b)` (R172) with the return address `pc`. -/
def interruptAccesses (pc vector : Word) (b : Bool) (s : State) : List Access :=
  push16Accesses pc s ++ [.write (stackAddr (s.sp - 2)) (s.p.toByte b)] ++ vectorReads vector

/-- The accesses of RESET (R200, D22). -/
def resetAccesses : List Access := vectorReads vecReset

/-- The accesses of an instruction that has no operand (R60). -/
def impliedAccesses (m : Mnemonic) (s : State) : List Access :=
  match m with
  | .pha => [.write (stackAddr s.sp) s.a]
  | .php => [.write (stackAddr s.sp) (s.p.toByte true)]
  | .pla | .plp => [.read (stackAddr (s.sp + 1))]
  | .rts => [.read (stackAddr (s.sp + 1)), .read (stackAddr (s.sp + 2))]
  | .rti => [.read (stackAddr (s.sp + 1)), .read (stackAddr (s.sp + 2)), .read (stackAddr (s.sp + 3))]
  | .brk => interruptAccesses (s.pc + 2) vecIrq true s
  | _ => []

/-- The accesses of an instruction after the fetch of its own bytes, in order (R48). -/
def dataAccesses (i : Instr) (s : State) : List Access :=
  match i.operand with
  | .imm _ | .acc | .rel _ => []
  | .imp => impliedAccesses i.mnemonic s
  | .ind w => [.read w, .read (indirectHighAddr s w)]
  | .mem r =>
    let ea := effectiveAddr r s
    match memUse i.mnemonic with
    | .reads => addressReads r s ++ [.read ea]
    | .stores => addressReads r s ++ [.write ea (writtenByte i.mnemonic 0x00 s)]
    | .modifies => addressReads r s ++ [.read ea, .write ea (writtenByte i.mnemonic (s.load r) s)]
    | .targets => if i.mnemonic = .jsr then push16Accesses (s.pc + 2) s else []
    | .never => []

end Sys2Proof.Machine
end

