-- ==== Sys2Proof/Machine/Assembler.lean ====
section
/-! DEFINITION. The assembler syntax of 30_encoding.md R76 to R78 as data: operands, the choice of the mode,
the two passes that give a label its address, the spelling, and the source's three idioms. No rule of the
machine reads it. -/

namespace Sys2Proof.Machine

/-- An address operand: a number or a label (R76). -/
inductive AddrExpr where
  | num (w : Word)
  | label (name : String)
  deriving DecidableEq, Repr

/-- The operand spellings of R76's table. -/
inductive AsmOperand where
  /-- `MNE` -/
  | none
  /-- `MNE A` -/
  | acc
  /-- `MNE #$nn` -/
  | imm (b : Byte)
  /-- `MNE $nn`, `MNE $nnnn`, `MNE label` -/
  | addr (e : AddrExpr)
  /-- `MNE $nn,X`, `MNE $nnnn,X` -/
  | addrX (e : AddrExpr)
  /-- `MNE $nn,Y`, `MNE $nnnn,Y` -/
  | addrY (e : AddrExpr)
  /-- `JMP ($nnnn)` -/
  | ind (e : AddrExpr)
  /-- `MNE ($nn,X)` -/
  | indX (b : Byte)
  /-- `MNE ($nn),Y` -/
  | indY (b : Byte)
  deriving DecidableEq, Repr

/-- A line: a label on its own, or an instruction (R76). -/
inductive AsmLine where
  | label (name : String)
  | op (m : Mnemonic) (o : AsmOperand)
  deriving DecidableEq, Repr

/-- The operand is known to lie in page zero (R78): a number below $0100. A label is not, DESIGN CHOICE, log
entry 22. -/
def AddrExpr.inPageZero : AddrExpr → Bool
  | .num w => hi8 w == 0x00
  | .label _ => false

/-- The zero-page form where the operand is known to be in page zero and the instruction has it, else the
16-bit form where the instruction has that (R78, D23). -/
def chooseForm (m : Mnemonic) (inPageZero : Bool) (short long : Mode) : Option Mode :=
  if inPageZero && formExists m short then some short
  else if formExists m long then some long
  else Option.none

/-- The addressing mode a spelling selects (R76, R78); none where the instruction has no such form, "an
assembler error" (R75). -/
def AsmOperand.modeFor (o : AsmOperand) (m : Mnemonic) : Option Mode :=
  let only (md : Mode) : Option Mode := if formExists m md then some md else Option.none
  match o with
  | .none => only .imp
  | .acc => only .acc
  | .imm _ => only .imm
  | .addr e => if formExists m .rel then some .rel else chooseForm m e.inPageZero .zp .abs
  | .addrX e => chooseForm m e.inPageZero .zpx .abx
  | .addrY e => chooseForm m e.inPageZero .zpy .aby
  | .ind _ => only .ind
  | .indX _ => only .izx
  | .indY _ => only .izy

/-- The addresses of the labels: the first pass. -/
def labelAddresses : Word → List AsmLine → Option (List (String × Word))
  | _, [] => some []
  | pc, .label name :: rest => (labelAddresses pc rest).map ((name, pc) :: ·)
  | pc, .op m o :: rest =>
    (o.modeFor m).bind fun md => labelAddresses (pc + BitVec.ofNat 16 md.length) rest

/-- The value of an address operand. -/
def AddrExpr.value (labels : List (String × Word)) : AddrExpr → Option Word
  | .num w => some w
  | .label name => (labels.find? fun e => e.1 == name).map (·.2)

/-- The displacement of a branch at `pc` to a target; none outside -128 to +127 (R72). -/
def displacement (pc target : Word) : Option Byte :=
  let d := (target - (pc + 2)).toInt
  if -128 ≤ d ∧ d ≤ 127 then some (u8Int d) else Option.none

/-- The operand bytes in a mode, for an instruction at `pc`. -/
def AsmOperand.bytes (labels : List (String × Word)) (pc : Word) (md : Mode) : AsmOperand → Option (List Byte)
  | .none | .acc => some []
  | .imm b | .indX b | .indY b => some [b]
  | .addr e | .addrX e | .addrY e | .ind e =>
    (e.value labels).bind fun w =>
      if md = .rel then (displacement pc w).map ([·])
      else if md.length = 2 then some [lo8 w]
      else some (wordBytes w)

/-- The bytes of the lines: the second pass. -/
def assembleLines (labels : List (String × Word)) : Word → List AsmLine → Option (List Byte)
  | _, [] => some []
  | pc, .label _ :: rest => assembleLines labels pc rest
  | pc, .op m o :: rest => do
    let md ← o.modeFor m
    let op ← opcodeOf m md
    let operand ← o.bytes labels pc md
    let after ← assembleLines labels (pc + BitVec.ofNat 16 md.length) rest
    return op :: operand ++ after

/-- The bytes of a program whose first byte is at `origin`. -/
def assemble (origin : Word) (program : List AsmLine) : Option (List Byte) :=
  (labelAddresses origin program).bind fun labels => assembleLines labels origin program

/-! ### Spelling (R76) -/

/-- One hexadecimal digit. -/
def hexDigit (n : Nat) : String :=
  match n with
  | 0 => "0" | 1 => "1" | 2 => "2" | 3 => "3" | 4 => "4" | 5 => "5" | 6 => "6" | 7 => "7"
  | 8 => "8" | 9 => "9" | 10 => "A" | 11 => "B" | 12 => "C" | 13 => "D" | 14 => "E" | _ => "F"

/-- `$nn` -/
def spellByte (b : Byte) : String := "$" ++ hexDigit (b.toNat / 16) ++ hexDigit (b.toNat % 16)

/-- `$nn` for an address in page zero, else `$nnnn` (R78); a label by its name. -/
def AddrExpr.spelling : AddrExpr → String
  | .num w =>
    if hi8 w == 0x00 then spellByte (lo8 w)
    else spellByte (hi8 w) ++ hexDigit ((lo8 w).toNat / 16) ++ hexDigit ((lo8 w).toNat % 16)
  | .label name => name

/-- The operand column of R76's table, with the space before it. -/
def AsmOperand.spelling : AsmOperand → String
  | .none => ""
  | .acc => " A"
  | .imm b => " #" ++ spellByte b
  | .addr e => " " ++ e.spelling
  | .addrX e => " " ++ e.spelling ++ ",X"
  | .addrY e => " " ++ e.spelling ++ ",Y"
  | .ind e => " (" ++ e.spelling ++ ")"
  | .indX b => " (" ++ spellByte b ++ ",X)"
  | .indY b => " (" ++ spellByte b ++ "),Y"

/-! ### The idioms of R77 -/

/-- (a) A far branch on Z = 1: BNE over a JMP. -/
def farBranchIfEqual (target : AddrExpr) : List AsmLine :=
  [.op .bne (.addr (.label "Skip")), .op .jmp (.addr target), .label "Skip"]

/-- (b) Stack initialisation. -/
def stackInit : List AsmLine := [.op .ldx (.imm 0xFF), .op .txs .none]

/-- (c) A subroutine that saves A, X and Y, does its work and restores them. -/
def savedRoutine (body : List AsmLine) : List AsmLine :=
  [.op .pha .none, .op .txa .none, .op .pha .none, .op .tya .none, .op .pha .none] ++ body ++
  [.op .pla .none, .op .tay .none, .op .pla .none, .op .tax .none, .op .pla .none, .op .rts .none]

end Sys2Proof.Machine
end

