-- ==== Sys2Proof/Safety.lean ====
section
/-! DEFINITION. How a run ends (70_reset_and_hazards.md R212, R213), what a well-formed state is, and what a safe
run is, in the terms the statements use. -/

namespace Sys2Proof.Machine

/-- The invariant of the model's own representation: memory is in its canonical form. -/
def State.wf (s : State) : Bool := Memory.wf s.mem

/-- How a run ends (R213). -/
inductive RunEnd where
  /-- `pc = HaltPC` at an instruction boundary; the final state -/
  | halted (s : State)
  /-- the stated number of steps was taken -/
  | outOfSteps (s : State)
  /-- an illegal opcode: no final state (R74) -/
  | faulted (f : Fault)
  /-- an instruction without a meaning: none in this model -/
  | refused (r : Refusal)
  deriving DecidableEq, Repr

/-- A run to `HaltPC`, of at most a number of steps (R213, D19). -/
def runUntil (haltPC : Word) : Nat → State → RunEnd
  | fuel, s =>
    if s.pc = haltPC then .halted s
    else
      match fuel with
      | 0 => .outOfSteps s
      | n + 1 =>
        match step s with
        | .next t => runUntil haltPC n t
        | .fault f => .faulted f
        | .refused r => .refused r

/-- A state reaches another in some number of steps. -/
inductive Reaches : State → State → Prop where
  | refl (s : State) : Reaches s s
  | step (s t u : State) : Reaches s t → step t = .next u → Reaches s u

/-- Every run from the state goes on: no illegal opcode is ever fetched (R74). -/
def NeverFaults (s : State) : Prop := ∀ t, Reaches s t → ∃ u, step t = .next u

end Sys2Proof.Machine
end

