-- ==== Sys2Proof/Certificates/Slice0/Obligations.lean ====
section
/-! DEFINITION. The statements about the model, each a `def Obligations.<Name> : Prop`, with the few words they
share: how a frame is said, and the effects written out from the spec's own formulas. -/

open Sys2Proof Sys2Proof.Machine

namespace Sys2Proof.Claims

/-- The state with `pc` past `n` bytes, modulo 65536 (R52). -/
def past (s : State) (n : Nat) : State := { s with pc := s.pc + BitVec.ofNat 16 n }

/-- `SetNZ` of R25, written out. -/
def nz (p : Flags) (v : Byte) : Flags := { p with n := v.getLsbD 7, z := decide (v = 0x00) }

/-- The byte `%NV1bDIZC` of R26, bit by bit. -/
def statusByte (p : Flags) (b : Bool) : Byte :=
  BitVec.ofBool p.n ++ BitVec.ofBool p.v ++ 1#1 ++ BitVec.ofBool b ++ BitVec.ofBool p.d ++ BitVec.ofBool p.i ++
    BitVec.ofBool p.z ++ BitVec.ofBool p.c

/-- The flags loaded from a pulled byte (R27), bit by bit. -/
def statusOf (v : Byte) : Flags :=
  { n := v.getLsbD 7, v := v.getLsbD 6, d := v.getLsbD 3, i := v.getLsbD 2, z := v.getLsbD 1, c := v.getLsbD 0 }

/-- What a read of an address gives after some writes, the latest first: the byte of the latest write that
the platform takes there, else what it gave before (R32, R43). -/
def readOver (s : State) : List (Word × Byte) → Config.Draw → Word → Byte
  | [], k, b => s.read k b
  | (a, v) :: rest, k, b =>
    if takesWrite (kindAt s.platform a) = true ∧ b = a then v else readOver s rest k b

/-- Every byte of memory reads in `t` as it does in `s`, but for the bytes written. -/
def StoredAt (s t : State) (writes : List (Word × Byte)) : Prop := ∀ k b, t.read k b = readOver s writes k b

/-- The instruction answers a next state that is `frame` but for memory, and memory is changed by the writes
alone. -/
def Stores (i : Instr) (s frame : State) (writes : List (Word × Byte)) : Prop :=
  ∃ t, exec i s = .next t ∧ { t with mem := s.mem } = frame ∧ (s.wf = true → StoredAt s t writes)

/-- The instruction has these modes and opcode bytes and no others: the Encoding line of its rule. R75 marks the opcode
bytes, but for JSR's $20, as the spec's own general knowledge (log entry 23). -/
def HasForms (m : Mnemonic) (forms : List (Mode × Byte)) : Prop :=
  (∀ i : Instr, i.mnemonic = m → ∃ op, (i.mode, op) ∈ forms ∧ encode i = op :: i.operand.bytes) ∧
  (∀ md op, (md, op) ∈ forms → ∀ b1 b2, ∃ i rest,
    decode [op, b1, b2] = .ok (i, rest) ∧ i.mnemonic = m ∧ i.mode = md)

/-- The instruction reads its operand, immediate or in memory, and then has this effect. -/
def Reads (m : Mnemonic) (effect : Byte → State → State) : Prop :=
  ∀ (i : Instr) (s : State), i.mnemonic = m →
    match i.operand with
    | .imm b => exec i s = .next (effect b (past s 2))
    | .mem r => exec i s = .next (effect (s.read .data (effectiveAddr r s)) (past s i.length))
    | _ => False

/-- The instruction stores a register at its effective address, and does nothing else. -/
def StoresRegister (m : Mnemonic) (reg : State → Byte) : Prop :=
  ∀ (i : Instr) (s : State), i.mnemonic = m →
    match i.operand with
    | .mem r => Stores i s (past s i.length) [(effectiveAddr r s, reg s)]
    | _ => False

/-- The instruction replaces A, or the byte at its effective address, by the result of an operation on it and
on the flags, and writes the flags. -/
def Modifies (m : Mnemonic) (op : Byte → Flags → Byte × Flags) : Prop :=
  ∀ (i : Instr) (s : State), i.mnemonic = m →
    match i.operand with
    | .acc => exec i s = .next { past s 1 with a := (op s.a s.p).1, p := (op s.a s.p).2 }
    | .mem r =>
      let old := s.read .data (effectiveAddr r s)
      Stores i s { past s i.length with p := (op old s.p).2 } [(effectiveAddr r s, (op old s.p).1)]
    | _ => False

/-- The branch is taken on the condition, to the signed displacement from the next instruction, and changes
nothing else (R144; that the mnemonic tests this flag is the spec's general knowledge, log entry 23). -/
def Branches (i : Byte → Instr) (opcode : Byte) (cond : Flags → Bool) : Prop :=
  ∀ b s, encode (i b) = [opcode, b] ∧ decode [opcode, b] = .ok (i b, []) ∧
    exec (i b) s = .next { s with pc := if cond s.p then s.pc + 2 + b.signExtend 16 else s.pc + 2 }

/-- The one-byte instruction has this encoding (its rule's Encoding line; R75 marks the byte as the spec's general
knowledge, log entry 23) and, one byte further, this effect. -/
def Implied (i : Instr) (opcode : Byte) (effect : State → State) : Prop :=
  encode i = [opcode] ∧ decode [opcode] = .ok (i, []) ∧ ∀ s, exec i s = .next (effect (past s 1))

/-- `t` is `s` after `Interrupt(vector, b)` with the return address `ret` (R172): PC and P are pushed, I is set, D
is cleared only where the part does so, `pc` is read from the vector, all else is as before. -/
def Entered (s t : State) (ret vector : Word) (b : Bool) : Prop :=
  { t with mem := s.mem, pc := s.pc } =
    { s with
      sp := s.sp - 3
      p := { s.p with i := true, d := if s.params.clearDOnInterrupt then false else s.p.d } } ∧
  (s.wf = true →
    StoredAt s t [(stackAddr (s.sp - 2), statusByte s.p b), (stackAddr (s.sp - 1), lo8 ret), (stackAddr s.sp, hi8 ret)]) ∧
  t.pc = cat (t.read .vectorHi (vector + 1)) (t.read .vectorLo vector)

/-- The bytes at the three stack addresses at and below SP take writes, as R202 has it of pages 0 and 1. -/
def StackTakes (s : State) : Prop :=
  takesWrite (kindAt s.platform (stackAddr s.sp)) = true ∧
  takesWrite (kindAt s.platform (stackAddr (s.sp - 1))) = true ∧
  takesWrite (kindAt s.platform (stackAddr (s.sp - 2))) = true

/-- Binary addition as R101 writes it: the state after. -/
def adcBinary (m : Byte) (s : State) : State :=
  let sum := s.a.toNat + m.toNat + s.p.c.toNat
  let r := BitVec.ofNat 8 sum
  { s with
    a := r
    p := nz { s.p with
      c := decide (255 < sum)
      v := decide (s.a.getLsbD 7 = m.getLsbD 7 ∧ r.getLsbD 7 ≠ s.a.getLsbD 7) } r }

/-- Binary subtraction as R103 writes it: the state after. -/
def sbcBinary (m : Byte) (s : State) : State :=
  let diff : Int := s.a.toNat - m.toNat - (1 - s.p.c.toNat)
  let r := BitVec.ofInt 8 diff
  { s with
    a := r
    p := nz { s.p with
      c := decide (0 ≤ diff)
      v := decide (s.a.getLsbD 7 ≠ m.getLsbD 7 ∧ r.getLsbD 7 ≠ s.a.getLsbD 7) } r }

/-- A byte of two decimal digits, the tens and the units (R102). -/
def digits (tens units : Nat) : Byte := BitVec.ofNat 8 (16 * tens + units)

/-- The operand of a reading instruction and the length that goes with it. -/
def operandByte (i : Instr) (s : State) : Option Byte :=
  match i.operand with
  | .imm b => some b
  | .mem r => some (s.read .data (effectiveAddr r s))
  | _ => none

/-- The state with the D flag replaced. -/
def withD (s : State) (d : Bool) : State := { s with p := { s.p with d := d } }

end Sys2Proof.Claims

open Sys2Proof.Claims

/-! ### Encoding and decoding (30_encoding.md) -/

/-- Decoding the encoding of an instruction gives the instruction back, whatever bytes follow (R50, R51, R54, R75;
the opcode bytes are the spec's own general knowledge, log entry 23). -/
def Obligations.DecodeOfEncodeIsTheInstruction : Prop :=
  ∀ (i : Instr) (rest : List Byte), decode (encode i ++ rest) = .ok (i, rest)

/-- What decodes to an instruction is that instruction's encoding and the bytes left over (R50, R51, R75; log entry
23). -/
def Obligations.DecodedBytesAreTheEncoding : Prop :=
  ∀ (bytes rest : List Byte) (i : Instr), decode bytes = .ok (i, rest) → bytes = encode i ++ rest

/-- 151 of the 256 opcode bytes are valid (R74), none of them with the low bits 11 (the map of R75, which the spec
marks as general knowledge: log entry 23). -/
def Obligations.OneHundredFiftyOneOpcodes : Prop :=
  ((List.range 256).countP fun n => (lookup (BitVec.ofNat 8 n)).isSome) = 151 ∧
  ∀ op : Byte, op.getLsbD 0 = true → op.getLsbD 1 = true → ∀ rest, decode (op :: rest) = .error (.illegalOpcode op)

/-- Words written out from R75's map decode to the instructions they stand for (log entry 23). -/
def Obligations.WrittenOutWordsDecode : Prop :=
  decode [0xA9, 0x42] = .ok (.ldaImm 0x42, []) ∧ decode [0x8D, 0x00, 0x04] = .ok (.staAbs 0x0400, []) ∧
  decode [0x71, 0x80, 0xEA] = .ok (.adcIzy 0x80, [0xEA]) ∧ decode [0x1E, 0x34, 0x12] = .ok (.aslAbx 0x1234, []) ∧
  decode [0x68] = .ok (.pla, []) ∧ decode [0x6C, 0xFF, 0x30] = .ok (.jmpInd 0x30FF, []) ∧
  decode [0xD0, 0xF6] = .ok (.bne 0xF6, []) ∧ decode [0x40] = .ok (.rti, [])

/-! ### The step (00_scope.md R8; 60_exceptions.md R175 to R180; 70_reset_and_hazards.md R200) -/

/-- Where the boundary gives the processor an instruction to run and the bytes at `pc` decode to `i`, the step is
`exec i`, at the state whose input is consumed, whose window of R178 is over and whose free values are fresh: these
three are the model's own fields (log entries 6, 9 and 11). -/
def Obligations.StepRunsTheDecodedInstruction : Prop :=
  ∀ (s : State) (i : Instr) (rest : List Byte), s.event = .instruction →
    decode [s.ready.read .opcode s.pc, s.ready.read .operandLo (s.pc + 1), s.ready.read .operandHi (s.pc + 2)] =
      .ok (i, rest) →
    step s = exec i s.ready ∧
    s.ready = { s with inputs := s.inputs.tail, draws := s.draws + 1, iWindow := none }

/-- An opcode byte that is none of the 151 stops the step with the fault that names it: the spec's decision D2 (R74;
log entry 8). -/
def Obligations.IllegalOpcodeFaults : Prop :=
  ∀ s : State, s.event = .instruction → lookup (s.ready.read .opcode s.pc) = none →
    step s = .fault (.illegalOpcode (s.ready.read .opcode s.pc))

/-- At a boundary RESET comes first, then NMI, then IRQ, else the instruction at `pc` (R177, R179): the spec's
decisions D9 and D11 (log entries 16 and 24). `s.input` is the head of the list of inputs, or quiet lines where the
list is at its end (log entry 9). -/
def Obligations.BoundaryOrderIsResetNmiIrqInstruction : Prop :=
  ∀ (s : State) (reset edge irq : Bool), s.input = .lines reset edge irq →
    step s =
      if reset = true then .next s.arrive.resetEntry
      else if s.nmiPending = true ∨ edge = true then .next s.ready.nmiEntry
      else if irq = true ∧ s.effectiveI = false then .next s.ready.irqEntry
      else runInstruction s.ready

/-- The RESET step (R200): I is set, SP is `ResetSP`, `nmi_pending` is cleared, `pc` comes from the vector at $FFFC,
D is cleared where the part does so, memory is unchanged; A, X, Y and the other flags are free, and nothing is said
of them. The value of `ResetSP`, the latch and the absent writes are the spec's decisions D8, D10 and D22 (log
entries 5, 12 and 24). -/
def Obligations.ResetStepLoadsTheVector : Prop :=
  ∀ (s : State) (edge irq : Bool) (rest : List Input), s.inputs = .lines true edge irq :: rest →
    ∃ t, step s = .next t ∧ t.p.i = true ∧ t.sp = s.params.resetSP ∧ t.nmiPending = false ∧ t.mem = s.mem ∧
      t.pc = cat (t.read .vectorHi 0xFFFD) (t.read .vectorLo 0xFFFC) ∧
      (s.params.clearDOnInterrupt = true → t.p.d = false) ∧
      t.iWindow = none ∧ t.inputs = rest ∧ t.params = s.params ∧ t.platform = s.platform

/-- The state after reset has the values of R29's table: SP, I, `nmi_pending` (decision D10, log entry 24) and PC
from the vector, in a memory that lists nothing (log entry 3), with R4's NMOS parameters (log entry 12). -/
def Obligations.ResetStateHasTheStatedValues : Prop :=
  State.reset.sp = 0xFD ∧ State.reset.p.i = true ∧ State.reset.nmiPending = false ∧
  State.reset.pc = cat (State.reset.read .vectorHi 0xFFFD) (State.reset.read .vectorLo 0xFFFC) ∧
  State.reset.params = { decimalEnabled := true, clearDOnInterrupt := false, resetSP := 0xFD, jmpIndirectPageWrap := true }

/-- An NMI pending, or an edge just arrived, is taken whatever I holds: the latch is cleared and the sequence of
R172 runs with B = 0 through $FFFA; the return address is `pc` (R175). The edge latch is the spec's decision D10, D
unchanged its D13 (log entries 12 and 24). The boundary is any at which RESET is not asserted: `s.input` is the head
of the list of inputs, or quiet lines where the list is at its end (log entry 9). -/
def Obligations.NmiEntryTakesTheNmiVector : Prop :=
  ∀ (s : State) (edge irq : Bool), s.input = .lines false edge irq → s.nmiPending = true ∨ edge = true →
    ∃ t, step s = .next t ∧ Entered { s.ready with nmiPending := false } t s.pc 0xFFFA false

/-- An IRQ line active, with `I_eff` 0 and no NMI: the sequence of R172 runs with B = 0 through $FFFE; the return
address is `pc` (R176). `I_eff` is P.I, but right after CLI, SEI or PLP the old or the new I (R178: decision D12, log
entry 11); the P that is pushed shows the current I either way. The level is the spec's decision D10, D unchanged its
D13 (log entries 12 and 24). -/
def Obligations.IrqEntryTakesTheIrqVector : Prop :=
  ∀ (s : State) (rest : List Input), s.inputs = .lines false false true :: rest → s.nmiPending = false →
    s.effectiveI = false → ∃ t, step s = .next t ∧ Entered s.ready t s.pc 0xFFFE false

/-- With I 1, at a boundary that is not right after CLI, SEI or PLP, the IRQ line has no effect (R19, R176; the
exception for that boundary is decision D12, log entry 11). -/
def Obligations.MaskedIrqLineHasNoEffect : Prop :=
  ∀ (s : State) (reset edge : Bool) (rest : List Input), s.iWindow = none → s.p.i = true →
    step { s with inputs := .lines reset edge true :: rest } = step { s with inputs := .lines reset edge false :: rest }

/-- The I that gates an IRQ is P.I, but at the boundary right after CLI, SEI or PLP it is the old or the new I; CLI,
SEI and PLP open that boundary, no other instruction does, and the next step of the processor closes it (R178): the
spec's decision D12, and the record of it in the state is the model's (log entry 11). -/
def Obligations.InterruptMaskWindow : Prop :=
  (∀ s : State, s.iWindow = none → s.effectiveI = s.p.i) ∧
  (∀ (s : State) (old : Bool), s.iWindow = some old → s.effectiveI = old ∨ s.effectiveI = s.p.i) ∧
  (∀ (i : Instr) (s t : State), exec i s = .next t →
    t.iWindow = if i.mnemonic ∈ [.cli, .sei, .plp] then some s.p.i else s.iWindow) ∧
  (∀ s t : State, step s = .next t → s.event = .nmi ∨ s.event = .irq ∨ s.event = .reset → t.iWindow = none) ∧
  (∀ s : State, s.ready.iWindow = none)

/-- An SO edge sets V and nothing else: no stack, no `pc`, no other flag (R180). That the edge is a step between two
instructions is the spec's decision D20; that it stands in a list which the step consumes, and the step counter, are the
model's own choices (log entries 6 and 9). -/
def Obligations.SoEdgeSetsOnlyV : Prop :=
  ∀ (s : State) (rest : List Input), s.inputs = .soEdge :: rest →
    step s = .next { s with p := { s.p with v := true }, inputs := rest, draws := s.draws + 1 }

/-- The environment's change of a device-owned memory location changes that byte and nothing else (R8 kind 5); how
the environment's steps come to the machine is the model's choice (log entry 9). -/
def Obligations.DeviceChangeChangesOneByte : Prop :=
  ∀ (s : State) (addr : Word) (v : Byte) (rest : List Input), s.inputs = .change addr v :: rest →
    kindAt s.platform addr = .deviceMemory →
    ∃ t, step s = .next t ∧ { t with mem := s.mem } = { s with inputs := rest, draws := s.draws + 1 } ∧
      (s.wf = true → ∀ k b, holdsByte (kindAt s.platform b) = true → t.read k b = if b = addr then v else s.read k b)

/-! ### Invariants of every step -/

/-- Every step keeps the memory in its canonical form, which is the model's form for R30's total function (log entry
3). -/
def Obligations.EveryStepKeepsMemoryCanonical : Prop :=
  ∀ s t : State, s.wf = true → step s = .next t → t.wf = true

/-- The memory after reset is in its canonical form (log entry 3). -/
def Obligations.ResetMemoryIsCanonical : Prop := State.reset.wf = true

/-- No step changes a parameter or the memory map (R3, R4; log entries 12 and 13), and every step counts one and
consumes one input (log entries 6 and 9). -/
def Obligations.NoStepChangesTheConfiguration : Prop :=
  ∀ s t : State, step s = .next t → t.params = s.params ∧ t.platform = s.platform ∧ t.draws = s.draws + 1 ∧
    t.inputs = s.inputs.tail

/-! ### P on the stack (10_state.md R26, R27) -/

/-- The pushed byte is `%NV1bDIZC`: the inference that R26 draws from its formula for `Pbyte(b)`. -/
def Obligations.PushedStatusByteLayout : Prop := ∀ (p : Flags) (b : Bool), p.toByte b = statusByte p b

/-- A pulled byte loads the six flags and its bits 5 and 4 are discarded (R27); pulling what was pushed restores P, which
is the spec's inference in R27, from R26 and R27. -/
def Obligations.PulledStatusByteLoadsSixFlags : Prop :=
  (∀ v : Byte, Flags.ofByte v = statusOf v) ∧ (∀ (p : Flags) (b : Bool), Flags.ofByte (p.toByte b) = p)

/-! ### Memory and addresses (20_memory.md, 30_encoding.md section 2) -/

/-- A write changes what a read of its own address gives, where the platform takes a write there, and no other byte
(R32, R43: the spec's decisions D16 and D18, log entries 13 and 14). -/
def Obligations.WriteChangesItsByteOnly : Prop :=
  ∀ (s : State) (addr : Word) (v : Byte), s.wf = true →
    { s.write addr v with mem := s.mem } = s ∧ StoredAt s (s.write addr v) [(addr, v)]

/-- A page-zero pointer takes its high byte from the next address of page zero, $0000 after $00FF (R35; the wrap is
the spec's decision D4, log entry 17). -/
def Obligations.PageZeroPointerWraps : Prop :=
  ∀ (s : State) (zp : Byte), ∃ lo hi : Word,
    lo.toNat = zp.toNat ∧ hi.toNat = (zp.toNat + 1) % 256 ∧
    s.read16Zp zp = (s.read .pointerHi hi) ++ (s.read .pointerLo lo)

/-- The effective addresses of the direct modes: those of page zero wrap in page zero, those of 16 bits at $FFFF
(R63 to R68; the wraps are the spec's decisions D3 and D5, log entry 17). -/
def Obligations.DirectAddressesWrapInTheirRange : Prop :=
  ∀ (s : State) (b : Byte) (w : Word),
    (effectiveAddr (.zp b) s).toNat = b.toNat ∧
    (effectiveAddr (.zpx b) s).toNat = (b.toNat + s.x.toNat) % 256 ∧
    (effectiveAddr (.zpy b) s).toNat = (b.toNat + s.y.toNat) % 256 ∧
    effectiveAddr (.abs w) s = w ∧
    (effectiveAddr (.abx w) s).toNat = (w.toNat + s.x.toNat) % 65536 ∧
    (effectiveAddr (.aby w) s).toNat = (w.toNat + s.y.toNat) % 65536

/-- `(zp,X)` indexes, then follows the pointer; `(zp),Y` follows the pointer, then indexes (R70, R71; the wraps are
the spec's decisions D3 to D5, log entry 17). -/
def Obligations.IndirectAddressesIndexBeforeOrAfter : Prop :=
  ∀ (s : State) (b : Byte),
    effectiveAddr (.izx b) s = s.read16Zp (BitVec.ofNat 8 (b.toNat + s.x.toNat)) ∧
    (effectiveAddr (.izy b) s).toNat = ((s.read16Zp b).toNat + s.y.toNat) % 65536

/-- A branch target is the next instruction's address plus the signed displacement, from -126 to +129 of the branch
itself (R72; the wrap at $FFFF is the spec's decision D7, log entry 17). -/
def Obligations.BranchTargetsAreWithinReach : Prop :=
  ∀ (pc0 : Word) (b : Byte),
    branchTarget (pc0 + 2) b = BitVec.ofInt 16 (pc0.toNat + 2 + b.toInt) ∧
    -126 ≤ (branchTarget (pc0 + 2) b - pc0).toInt ∧ (branchTarget (pc0 + 2) b - pc0).toInt ≤ 129

/-- The displacement the assembler computes reaches its target, and it rejects exactly the targets that no
displacement reaches (R72; log entries 17 and 22). -/
def Obligations.AssembledDisplacementReachesTheTarget : Prop :=
  ∀ (pc0 target : Word),
    (∀ b, displacement pc0 target = some b → branchTarget (pc0 + 2) b = target) ∧
    (displacement pc0 target = none → ∀ b, branchTarget (pc0 + 2) b ≠ target)

/-! ### Loads, stores, transfers (40_load_store_transfer.md) -/

/-- LDA, LDX, LDY load the operand byte and set N and Z from it, and change nothing else. -/
def Obligations.LoadsPutTheOperandInTheRegister : Prop :=
  HasForms .lda [(.imm, 0xA9), (.zp, 0xA5), (.zpx, 0xB5), (.abs, 0xAD), (.abx, 0xBD), (.aby, 0xB9), (.izx, 0xA1), (.izy, 0xB1)] ∧
  HasForms .ldx [(.imm, 0xA2), (.zp, 0xA6), (.zpy, 0xB6), (.abs, 0xAE), (.aby, 0xBE)] ∧
  HasForms .ldy [(.imm, 0xA0), (.zp, 0xA4), (.zpx, 0xB4), (.abs, 0xAC), (.abx, 0xBC)] ∧
  Reads .lda (fun m s => { s with a := m, p := nz s.p m }) ∧
  Reads .ldx (fun m s => { s with x := m, p := nz s.p m }) ∧
  Reads .ldy (fun m s => { s with y := m, p := nz s.p m })

/-- STA, STX, STY write the register at the effective address and change nothing else. -/
def Obligations.StoresPutTheRegisterInMemory : Prop :=
  HasForms .sta [(.zp, 0x85), (.zpx, 0x95), (.abs, 0x8D), (.abx, 0x9D), (.aby, 0x99), (.izx, 0x81), (.izy, 0x91)] ∧
  HasForms .stx [(.zp, 0x86), (.zpy, 0x96), (.abs, 0x8E)] ∧
  HasForms .sty [(.zp, 0x84), (.zpx, 0x94), (.abs, 0x8C)] ∧
  StoresRegister .sta State.a ∧ StoresRegister .stx State.x ∧ StoresRegister .sty State.y

/-- The transfers copy a register and set N and Z from it, but TXS, which changes no flag. -/
def Obligations.TransfersCopyTheRegister : Prop :=
  Implied .tax 0xAA (fun s => { s with x := s.a, p := nz s.p s.a }) ∧
  Implied .tay 0xA8 (fun s => { s with y := s.a, p := nz s.p s.a }) ∧
  Implied .txa 0x8A (fun s => { s with a := s.x, p := nz s.p s.x }) ∧
  Implied .tya 0x98 (fun s => { s with a := s.y, p := nz s.p s.y }) ∧
  Implied .tsx 0xBA (fun s => { s with x := s.sp, p := nz s.p s.sp }) ∧
  Implied .txs 0x9A (fun s => { s with sp := s.x })

/-! ### Arithmetic (41_arithmetic.md) -/

/-- Binary ADC in all its forms (R101), where D is 0 or the part has no decimal mode; the other branch of R101 is
the decimal statements'. -/
def Obligations.BinaryAdcAddsWithCarry : Prop :=
  HasForms .adc [(.imm, 0x69), (.zp, 0x65), (.zpx, 0x75), (.abs, 0x6D), (.abx, 0x7D), (.aby, 0x79), (.izx, 0x61), (.izy, 0x71)] ∧
  ∀ (i : Instr) (s : State), i.mnemonic = .adc → s.p.d = false ∨ s.params.decimalEnabled = false →
    match operandByte i s with
    | some m => exec i s = .next (adcBinary m (past s i.length))
    | none => False

/-- Binary SBC in all its forms (R103), where D is 0 or the part has no decimal mode; the other branch of R103 is
the decimal statements'. -/
def Obligations.BinarySbcSubtractsWithBorrow : Prop :=
  HasForms .sbc [(.imm, 0xE9), (.zp, 0xE5), (.zpx, 0xF5), (.abs, 0xED), (.abx, 0xFD), (.aby, 0xF9), (.izx, 0xE1), (.izy, 0xF1)] ∧
  ∀ (i : Instr) (s : State), i.mnemonic = .sbc → s.p.d = false ∨ s.params.decimalEnabled = false →
    match operandByte i s with
    | some m => exec i s = .next (sbcBinary m (past s i.length))
    | none => False

/-- Decimal ADC and SBC of valid BCD: A and C are the decimal sum and its carry, or the decimal difference, modulo
100, with C = 1 where there is no borrow; D, I and everything that is no flag are as before; N, Z and V are free, and
nothing is said of them (R102; that V is free too is the spec's decision D14, log entry 7). -/
def Obligations.DecimalArithmeticWorksOnDigits : Prop :=
  ∀ (i : Instr) (s : State) (t1 u1 t2 u2 : Nat), s.p.d = true → s.params.decimalEnabled = true →
    t1 ≤ 9 → u1 ≤ 9 → t2 ≤ 9 → u2 ≤ 9 → s.a = digits t1 u1 → operandByte i s = some (digits t2 u2) →
    let sum := (10 * t1 + u1) + (10 * t2 + u2) + s.p.c.toNat
    let n := 10 * t1 + u1
    let taken := (10 * t2 + u2) + (1 - s.p.c.toNat)
    let diff := if taken ≤ n then n - taken else n + 100 - taken
    (i.mnemonic = .adc →
      ∃ t, exec i s = .next t ∧ t.a = digits (sum % 100 / 10) (sum % 10) ∧ t.p.c = decide (99 < sum) ∧
        { t with a := s.a, p := s.p } = past s i.length ∧ t.p.d = s.p.d ∧ t.p.i = s.p.i) ∧
    (i.mnemonic = .sbc →
      ∃ t, exec i s = .next t ∧ t.a = digits (diff / 10) (diff % 10) ∧ t.p.c = decide (taken ≤ n) ∧
        { t with a := s.a, p := s.p } = past s i.length ∧ t.p.d = s.p.d ∧ t.p.i = s.p.i)

/-- Decimal ADC and SBC of any operands, invalid BCD too, answer a next state: only A and the flags N, V, Z, C may
differ from before, and no value is named for them (R102: the spec's decision D14, log entry 7). -/
def Obligations.DecimalArithmeticAlwaysCompletes : Prop :=
  ∀ (i : Instr) (s : State), i.mnemonic = .adc ∨ i.mnemonic = .sbc → s.p.d = true → s.params.decimalEnabled = true →
    ∃ t, exec i s = .next t ∧ { t with a := s.a, p := s.p } = past s i.length ∧ t.p.d = s.p.d ∧ t.p.i = s.p.i

/-- V after a binary addition is 1 exactly where the signed sum lies outside -128..+127, and binary SBC of M gives
the A, C, V, N, Z that binary ADC of `M xor $FF` gives: the spec's inferences in R101 and R103. -/
def Obligations.BinaryArithmeticIsSignedAndComplement : Prop :=
  (∀ (a m : Byte) (c : Bool), (addBinary a m c).overflow =
    decide (a.toInt + m.toInt + c.toNat < -128 ∨ 127 < a.toInt + m.toInt + c.toNat)) ∧
  (∀ (s : State) (m : Byte), decimalMode s = false → subtractWithCarry m s = addWithCarry (m ^^^ 0xFF) s)

/-- The compares set C where the register is not below the operand, N and Z from the difference, and change nothing
else (R104 to R106; that N and Z come from the difference is the spec's general knowledge, log entry 23). -/
def Obligations.ComparesSetCarryZeroNegative : Prop :=
  HasForms .cmp [(.imm, 0xC9), (.zp, 0xC5), (.zpx, 0xD5), (.abs, 0xCD), (.abx, 0xDD), (.aby, 0xD9), (.izx, 0xC1), (.izy, 0xD1)] ∧
  HasForms .cpx [(.imm, 0xE0), (.zp, 0xE4), (.abs, 0xEC)] ∧ HasForms .cpy [(.imm, 0xC0), (.zp, 0xC4), (.abs, 0xCC)] ∧
  Reads .cmp (fun m s => { s with p := nz { s.p with c := decide (m.toNat ≤ s.a.toNat) } (s.a - m) }) ∧
  Reads .cpx (fun m s => { s with p := nz { s.p with c := decide (m.toNat ≤ s.x.toNat) } (s.x - m) }) ∧
  Reads .cpy (fun m s => { s with p := nz { s.p with c := decide (m.toNat ≤ s.y.toNat) } (s.y - m) })

/-- INC and DEC add one to and take one from the byte at the effective address, modulo 256, and set N and Z (R107,
R108: the spec's general knowledge, log entry 23). -/
def Obligations.IncAndDecModifyMemory : Prop :=
  HasForms .inc [(.zp, 0xE6), (.zpx, 0xF6), (.abs, 0xEE), (.abx, 0xFE)] ∧
  HasForms .dec [(.zp, 0xC6), (.zpx, 0xD6), (.abs, 0xCE), (.abx, 0xDE)] ∧
  Modifies .inc (fun m p => (m + 1, nz p (m + 1))) ∧ Modifies .dec (fun m p => (m - 1, nz p (m - 1)))

/-- INX, INY, DEX, DEY step the index register modulo 256 and set N and Z. -/
def Obligations.IndexRegistersStep : Prop :=
  Implied .inx 0xE8 (fun s => { s with x := s.x + 1, p := nz s.p (s.x + 1) }) ∧
  Implied .iny 0xC8 (fun s => { s with y := s.y + 1, p := nz s.p (s.y + 1) }) ∧
  Implied .dex 0xCA (fun s => { s with x := s.x - 1, p := nz s.p (s.x - 1) }) ∧
  Implied .dey 0x88 (fun s => { s with y := s.y - 1, p := nz s.p (s.y - 1) })

/-! ### Logic, bit test, shifts (42_logic_shift.md) -/

/-- AND, ORA, EOR combine A with the operand bit by bit and set N and Z. -/
def Obligations.LogicCombinesBitByBit : Prop :=
  HasForms .and [(.imm, 0x29), (.zp, 0x25), (.zpx, 0x35), (.abs, 0x2D), (.abx, 0x3D), (.aby, 0x39), (.izx, 0x21), (.izy, 0x31)] ∧
  HasForms .ora [(.imm, 0x09), (.zp, 0x05), (.zpx, 0x15), (.abs, 0x0D), (.abx, 0x1D), (.aby, 0x19), (.izx, 0x01), (.izy, 0x11)] ∧
  HasForms .eor [(.imm, 0x49), (.zp, 0x45), (.zpx, 0x55), (.abs, 0x4D), (.abx, 0x5D), (.aby, 0x59), (.izx, 0x41), (.izy, 0x51)] ∧
  Reads .and (fun m s => { s with a := s.a &&& m, p := nz s.p (s.a &&& m) }) ∧
  Reads .ora (fun m s => { s with a := s.a ||| m, p := nz s.p (s.a ||| m) }) ∧
  Reads .eor (fun m s => { s with a := s.a ^^^ m, p := nz s.p (s.a ^^^ m) })

/-- BIT copies bits 7 and 6 of the operand to N and V and sets Z from `A and M`; it changes nothing else (R123; that
Z comes from `A and M` is the spec's general knowledge, log entry 23). -/
def Obligations.BitTestsTheOperand : Prop :=
  HasForms .bit [(.zp, 0x24), (.abs, 0x2C)] ∧
  Reads .bit (fun m s =>
    { s with p := { s.p with n := m.getLsbD 7, v := m.getLsbD 6, z := decide (s.a &&& m = 0x00) } })

/-- The shifts move every bit by one place; the bit that leaves is C, the bit that enters is 0 for ASL and LSR and
the old C for ROL and ROR; N and Z are the result's (R124 to R127). That they exist on memory operands (ZP, ZPX, ABS,
ABX), and there write the result back, is the spec's general knowledge (G9, log entry 23). -/
def Obligations.ShiftsMoveEveryBitByOne : Prop :=
  HasForms .asl [(.acc, 0x0A), (.zp, 0x06), (.zpx, 0x16), (.abs, 0x0E), (.abx, 0x1E)] ∧
  HasForms .lsr [(.acc, 0x4A), (.zp, 0x46), (.zpx, 0x56), (.abs, 0x4E), (.abx, 0x5E)] ∧
  HasForms .rol [(.acc, 0x2A), (.zp, 0x26), (.zpx, 0x36), (.abs, 0x2E), (.abx, 0x3E)] ∧
  HasForms .ror [(.acc, 0x6A), (.zp, 0x66), (.zpx, 0x76), (.abs, 0x6E), (.abx, 0x7E)] ∧
  Modifies .asl (fun m p =>
    let r : Byte := m.extractLsb' 0 7 ++ 0#1
    (r, nz { p with c := m.getLsbD 7 } r)) ∧
  Modifies .lsr (fun m p =>
    let r : Byte := 0#1 ++ m.extractLsb' 1 7
    (r, nz { p with c := m.getLsbD 0 } r)) ∧
  Modifies .rol (fun m p =>
    let r : Byte := m.extractLsb' 0 7 ++ BitVec.ofBool p.c
    (r, nz { p with c := m.getLsbD 7 } r)) ∧
  Modifies .ror (fun m p =>
    let r : Byte := BitVec.ofBool p.c ++ m.extractLsb' 1 7
    (r, nz { p with c := m.getLsbD 0 } r))

/-! ### The stack (43_stack.md) -/

/-- A push writes at `$0100 + SP` and decrements SP modulo 256, two bytes the high byte first; a pull increments SP
and reads there. -/
def Obligations.PushAndPullMoveTheStackPointer : Prop :=
  ∀ (s : State) (v : Byte) (k : Config.Draw),
    (stackAddr s.sp).toNat = 0x100 + s.sp.toNat ∧
    { s.push v with mem := s.mem } = { s with sp := s.sp - 1 } ∧
    (s.wf = true → StoredAt s (s.push v) [(stackAddr s.sp, v)]) ∧
    s.pull k = (s.read k (stackAddr (s.sp + 1)), { s with sp := s.sp + 1 }) ∧
    ∀ w : Word, s.push16 w = (s.push (w.extractLsb' 8 8)).push (w.extractLsb' 0 8)

/-- A pull after a push returns the byte and restores SP, for every SP: the spec's inference in R131. -/
def Obligations.PullAfterPushReturnsTheByte : Prop :=
  ∀ (s : State) (v : Byte) (k : Config.Draw), s.wf = true →
    takesWrite (kindAt s.platform (stackAddr s.sp)) = true →
    ((s.push v).pull k).1 = v ∧ ((s.push v).pull k).2.sp = s.sp

/-- PHA and PHP push A and P with B = 1; nothing but SP, that byte and `pc` changes. -/
def Obligations.PushInstructionsStoreOneByte : Prop :=
  (∀ s, Stores .pha s { past s 1 with sp := s.sp - 1 } [(stackAddr s.sp, s.a)]) ∧
  (∀ s, Stores .php s { past s 1 with sp := s.sp - 1 } [(stackAddr s.sp, statusByte s.p true)]) ∧
  encode .pha = [0x48] ∧ encode .php = [0x08] ∧ decode [0x48] = .ok (.pha, []) ∧ decode [0x08] = .ok (.php, [])

/-- PLA pulls a byte to A and sets N and Z from it (R133). -/
def Obligations.PlaLoadsThePulledByte : Prop :=
  Implied .pla 0x68 (fun s =>
    let v := s.read .pull1 (stackAddr (s.sp + 1))
    { s with sp := s.sp + 1, a := v, p := nz s.p v })

/-! ### Control flow (44_control_flow.md) -/

/-- JMP goes to the operand, or to the pointer it names, whose high byte comes from the same page on the NMOS part;
nothing else changes (R141, R66, R69; the page wrap is the spec's decision D6, log entry 17). -/
def Obligations.JmpGoesToTheTarget : Prop :=
  HasForms .jmp [(.abs, 0x4C), (.ind, 0x6C)] ∧
  (∀ w s, exec (.jmpAbs w) s = .next { s with pc := w }) ∧
  (∀ (w : Word) (s : State), s.params.jmpIndirectPageWrap = true →
    exec (.jmpInd w) s = .next { s with
      pc := (s.read .pointerHi (w.extractLsb' 8 8 ++ (w.extractLsb' 0 8 + 1#8))) ++ (s.read .pointerLo w) }) ∧
  (∀ (w : Word) (s : State), s.params.jmpIndirectPageWrap = false →
    exec (.jmpInd w) s = .next { s with pc := (s.read .pointerHi (w + 1)) ++ (s.read .pointerLo w) })

/-- JSR pushes the address of its own last byte, the high byte first, and goes to its operand. -/
def Obligations.JsrPushesTheReturnAddressLessOne : Prop :=
  HasForms .jsr [(.abs, 0x20)] ∧
  ∀ (w : Word) (s : State), Stores (.jsr w) s { s with pc := w, sp := s.sp - 2 }
    [(stackAddr (s.sp - 1), (s.pc + 2).extractLsb' 0 8), (stackAddr s.sp, (s.pc + 2).extractLsb' 8 8)]

/-- RTS pulls the low byte, then the high byte, and goes to that address plus one. -/
def Obligations.RtsReturnsPastThePulledAddress : Prop :=
  Implied .rts 0x60 (fun s => { s with
    sp := s.sp + 2
    pc := ((s.read .pull2 (stackAddr (s.sp + 2))) ++ (s.read .pull1 (stackAddr (s.sp + 1)))) + 1 })

/-- An RTS right after a JSR goes to the instruction after the JSR, with every register, flag and SP as before (it
follows from R142 and R143). -/
def Obligations.RtsAfterJsrReturns : Prop :=
  ∀ (w : Word) (s : State), s.wf = true → takesWrite (kindAt s.platform (stackAddr s.sp)) = true →
    takesWrite (kindAt s.platform (stackAddr (s.sp - 1))) = true →
    ∃ t u, exec (.jsr w) s = .next t ∧ exec .rts t = .next u ∧ { u with mem := s.mem } = past s 3

/-- The eight branches test one flag each. -/
def Obligations.BranchesTestOneFlag : Prop :=
  Branches .bcc 0x90 (fun p => !p.c) ∧ Branches .bcs 0xB0 (fun p => p.c) ∧ Branches .beq 0xF0 (fun p => p.z) ∧
  Branches .bne 0xD0 (fun p => !p.z) ∧ Branches .bmi 0x30 (fun p => p.n) ∧ Branches .bpl 0x10 (fun p => !p.n) ∧
  Branches .bvc 0x50 (fun p => !p.v) ∧ Branches .bvs 0x70 (fun p => p.v)

/-! ### Flags and system (45_flags_system.md) -/

/-- CLC, SEC, CLD, SED and CLV write one flag with a constant and change nothing else (R160 to R163, R166). -/
def Obligations.FlagInstructionsWriteOneFlag : Prop :=
  Implied .clc 0x18 (fun s => { s with p := { s.p with c := false } }) ∧
  Implied .sec 0x38 (fun s => { s with p := { s.p with c := true } }) ∧
  Implied .cld 0xD8 (fun s => { s with p := { s.p with d := false } }) ∧
  Implied .sed 0xF8 (fun s => { s with p := { s.p with d := true } }) ∧
  Implied .clv 0xB8 (fun s => { s with p := { s.p with v := false } })

/-- CLI and SEI write I, PLP the six flags (R135, R164, R165). All three also open the boundary of R178, whose free
choice is the spec's decision D12 and whose record in the state is the model's (log entry 11). -/
def Obligations.MaskInstructionsOpenTheBoundary : Prop :=
  Implied .cli 0x58 (fun s => { s with p := { s.p with i := false }, iWindow := some s.p.i }) ∧
  Implied .sei 0x78 (fun s => { s with p := { s.p with i := true }, iWindow := some s.p.i }) ∧
  Implied .plp 0x28 (fun s =>
    { s with sp := s.sp + 1, p := statusOf (s.read .pull1 (stackAddr (s.sp + 1))), iWindow := some s.p.i })

/-- NOP changes `pc` alone: the spec's own general knowledge, R167 (log entry 23). -/
def Obligations.NopChangesThePcAlone : Prop := Implied .nop 0xEA (fun s => s)

/-- BRK takes the exception whatever I holds: the return address is its own plus 2, B is 1, the vector $FFFE (R168,
R172; the return address is the spec's decision D21, D unchanged its D13: log entries 12 and 25). -/
def Obligations.BrkTakesTheIrqVector : Prop :=
  encode .brk = [0x00] ∧ decode [0x00] = .ok (.brk, []) ∧
  ∀ s : State, ∃ t, exec .brk s = .next t ∧ Entered s t (s.pc + 2) 0xFFFE true

/-- RTI pulls P, then PCL, then PCH, and goes to exactly that address. -/
def Obligations.RtiRestoresStatusAndCounter : Prop :=
  Implied .rti 0x40 (fun s => { s with
    sp := s.sp + 3
    p := statusOf (s.read .pull1 (stackAddr (s.sp + 1)))
    pc := (s.read .pull3 (stackAddr (s.sp + 3))) ++ (s.read .pull2 (stackAddr (s.sp + 2))) })

/-- An RTI right after a BRK resumes at the BRK's address plus 2 with every register, flag and SP as before the BRK
(it follows from R168 and R169; the return address is the spec's decision D21, log entry 25). -/
def Obligations.RtiAfterBrkResumes : Prop :=
  ∀ s : State, s.wf = true → StackTakes s →
    ∃ t u, exec .brk s = .next t ∧ exec .rti t = .next u ∧ { u with mem := s.mem } = past s 2

/-- On entry to a handler the byte at `$0100 + u8(SP + 1)` is the pushed P, and its bit 4 is 1 where BRK was executed and
0 where the step took an IRQ or an NMI (R21, R182; the address is the spec's inference in R21). The byte can be read
there where the platform takes the push. -/
def Obligations.BreakBitTellsBrkFromIrq : Prop :=
  ∀ (s : State) (k : Config.Draw), s.wf = true → takesWrite (kindAt s.platform (stackAddr (s.sp - 2))) = true →
    (∃ t, exec .brk s = .next t ∧ t.read k (stackAddr (t.sp + 1)) = statusByte s.p true ∧
      (t.read k (stackAddr (t.sp + 1))).getLsbD 4 = true) ∧
    (s.event = .irq ∨ s.event = .nmi →
      ∃ t, step s = .next t ∧ t.read k (stackAddr (t.sp + 1)) = statusByte s.p false ∧
        (t.read k (stackAddr (t.sp + 1))).getLsbD 4 = false)

/-! ### Whole-machine rules -/

/-- Which instruction writes which flag: the table under R16; BRK leaves D as it is where the part does not clear it
(R172, R174: decision D13, log entry 12). -/
def Obligations.FlagWritersTable : Prop :=
  ∀ (i : Instr) (s t : State), exec i s = .next t →
    (i.mnemonic ∉ [.lda, .ldx, .ldy, .tax, .tay, .txa, .tya, .tsx, .pla, .adc, .sbc, .and, .ora, .eor, .asl, .lsr,
        .rol, .ror, .inc, .dec, .inx, .iny, .dex, .dey, .cmp, .cpx, .cpy, .bit, .plp, .rti] →
      t.p.n = s.p.n ∧ t.p.z = s.p.z) ∧
    (i.mnemonic ∉ [.adc, .sbc, .asl, .lsr, .rol, .ror, .cmp, .cpx, .cpy, .clc, .sec, .plp, .rti] → t.p.c = s.p.c) ∧
    (i.mnemonic ∉ [.adc, .sbc, .bit, .clv, .plp, .rti] → t.p.v = s.p.v) ∧
    (i.mnemonic ∉ [.cld, .sed, .plp, .rti] → (i.mnemonic = .brk → s.params.clearDOnInterrupt = false) →
      t.p.d = s.p.d) ∧
    (i.mnemonic ∉ [.cli, .sei, .plp, .rti, .brk] → t.p.i = s.p.i)

/-- Which instruction writes which register: the "Written by" column of R10, and for `pc` R140. -/
def Obligations.RegisterWritersTable : Prop :=
  ∀ (i : Instr) (s t : State), exec i s = .next t →
    (i.mnemonic ∉ [.lda, .txa, .tya, .pla, .adc, .sbc, .and, .ora, .eor] → i.operand ≠ .acc → t.a = s.a) ∧
    (i.mnemonic ∉ [.ldx, .tax, .tsx, .inx, .dex] → t.x = s.x) ∧
    (i.mnemonic ∉ [.ldy, .tay, .iny, .dey] → t.y = s.y) ∧
    (i.mnemonic ∉ [.txs, .pha, .php, .pla, .plp, .jsr, .rts, .brk, .rti] → t.sp = s.sp) ∧
    (i.mnemonic ∉ [.jmp, .jsr, .rts, .rti, .brk, .bcc, .bcs, .beq, .bne, .bmi, .bpl, .bvc, .bvs] →
      t.pc = s.pc + BitVec.ofNat 16 i.length)

/-- No instruction but ADC, SBC and those that push, load or write D depends on D: the spec's inference in R20. -/
def Obligations.OnlyAdcAndSbcObeyDecimalMode : Prop :=
  ∀ (i : Instr) (s t : State) (d : Bool),
    i.mnemonic ∉ [.adc, .sbc, .php, .brk, .cld, .sed, .plp, .rti] → exec i s = .next t →
    exec i (withD s d) = .next (withD t d)

/-- An instruction changes memory by the writes of its list of accesses, in their order, and by nothing else (R43,
R48: the spec's decisions D15 and D16, log entry 15). -/
def Obligations.MemoryChangesByListedWritesOnly : Prop :=
  ∀ (i : Instr) (s t : State), exec i s = .next t → t.mem = ((dataAccesses i s).foldl Access.apply s).mem
end

