-- ==== Sys2Proof/Laws/Memory.lean ====
section
/-! SUPPORT. The laws of memory as data: a read after a write, and the canonical form, which every memory
operation keeps. -/

namespace Sys2Proof.Machine

/-- An address below every listed one reads as unlisted. -/
theorem Memory.read_below (m : Memory) : ∀ (lo a : Nat), Memory.wfFrom lo m = true → a < lo →
    m.read a = Memory.unlisted := by
  induction m with
  | nil => intros; rfl
  | cons e rest ih =>
    intro lo a h hlt
    obtain ⟨b, v⟩ := e
    simp only [Memory.wfFrom, Bool.and_eq_true, decide_eq_true_eq] at h
    have : b ≠ a := by omega
    simp only [Memory.read, this, if_false]
    exact ih (b + 1) a h.2 (by omega)

/-- A lower bound may be lowered. -/
theorem Memory.wfFrom_mono (m : Memory) {lo lo' : Nat} (h : Memory.wfFrom lo m = true) (hle : lo' ≤ lo) :
    Memory.wfFrom lo' m = true := by
  cases m with
  | nil => rfl
  | cons e rest =>
    simp only [Memory.wfFrom, Bool.and_eq_true, decide_eq_true_eq] at h ⊢
    exact ⟨⟨⟨by omega, h.1.1.2⟩, h.1.2⟩, h.2⟩

/-- One cell before a memory that begins above it. -/
theorem Memory.wfFrom_cell (m : Memory) {lo a : Nat} (v : Byte) (hlo : lo ≤ a) (ha : a < 65536)
    (h : Memory.wfFrom (a + 1) m = true) : Memory.wfFrom lo (Memory.cell a v ++ m) = true := by
  unfold Memory.cell
  split
  · exact Memory.wfFrom_mono m h (by omega)
  · rename_i hv
    simp [Memory.wfFrom, hlo, ha, hv, h]

/-- What one cell before a memory that begins above it reads as. -/
theorem Memory.read_cell (m : Memory) {a : Nat} (v : Byte) (b : Nat) (h : Memory.wfFrom (a + 1) m = true) :
    Memory.read (Memory.cell a v ++ m) b = if b = a then v else m.read b := by
  unfold Memory.cell
  split
  · rename_i hv
    by_cases hb : b = a
    · simp [hb, hv, Memory.read_below m (a + 1) a h]
    · simp [hb]
  · simp [Memory.read, eq_comm]

/-- A write keeps the canonical form from a lower bound. -/
theorem Memory.write_wfFrom (m : Memory) (addr : Nat) (v : Byte) (ha : addr < 65536) :
    ∀ lo, lo ≤ addr → Memory.wfFrom lo m = true → Memory.wfFrom lo (m.write addr v) = true := by
  induction m with
  | nil =>
    intro lo hlo _
    simpa [Memory.write] using Memory.wfFrom_cell [] v hlo ha rfl
  | cons e rest ih =>
    intro lo hlo h
    obtain ⟨b, w⟩ := e
    have h' := h
    simp only [Memory.wfFrom, Bool.and_eq_true, decide_eq_true_eq] at h'
    obtain ⟨⟨⟨h1, h2⟩, h3⟩, h4⟩ := h'
    unfold Memory.write
    split
    · rename_i hlt
      exact Memory.wfFrom_cell _ v hlo ha (by simp [Memory.wfFrom, h2, h3, h4]; omega)
    · split
      · rename_i heq
        subst heq
        exact Memory.wfFrom_cell rest v hlo ha h4
      · simp only [Memory.wfFrom, Bool.and_eq_true, decide_eq_true_eq]
        exact ⟨⟨⟨h1, h2⟩, h3⟩, ih (b + 1) (by omega) h4⟩

/-- A write keeps the canonical form. -/
theorem Memory.write_wf (m : Memory) (addr : Word) (v : Byte) (h : m.wf = true) :
    (m.write addr.toNat v).wf = true :=
  Memory.write_wfFrom m addr.toNat v (by have := addr.isLt; omega) 0 (Nat.zero_le _) h

/-- A read after a write: the byte written at its address, every other byte as before. -/
theorem Memory.read_write (m : Memory) (addr b : Nat) (v : Byte) :
    ∀ lo, Memory.wfFrom lo m = true → (m.write addr v).read b = if b = addr then v else m.read b := by
  induction m with
  | nil =>
    intro lo _
    simpa [Memory.write] using Memory.read_cell (a := addr) [] v b rfl
  | cons e rest ih =>
    intro lo h
    obtain ⟨c, w⟩ := e
    have h' := h
    simp only [Memory.wfFrom, Bool.and_eq_true, decide_eq_true_eq] at h'
    obtain ⟨⟨⟨h1, h2⟩, h3⟩, h4⟩ := h'
    unfold Memory.write
    split
    · exact Memory.read_cell _ v b (by simp [Memory.wfFrom, h2, h3, h4]; omega)
    · split
      · rename_i _ heq
        subst heq
        rw [Memory.read_cell rest v b h4]
        by_cases hb : addr = b
        · simp [hb]
        · have hb' : ¬ b = addr := fun h => hb h.symm
          simp [Memory.read, hb, hb']
      · rename_i hlt hne
        by_cases hc : c = b
        · subst hc
          have : ¬ c = addr := fun h => hne h.symm
          simp [Memory.read, this]
        · simp [Memory.read, hc, ih (c + 1) h4]

/-- The memory after reset is in canonical form. -/
theorem State.reset_mem_wf : State.reset.mem.wf = true := rfl

/-- Two memories in canonical form that read alike everywhere are equal. -/
theorem Memory.ext_of_read : ∀ (m m' : Memory) (lo : Nat), Memory.wfFrom lo m = true → Memory.wfFrom lo m' = true →
    (∀ a, m.read a = m'.read a) → m = m'
  | [], [], _, _, _, _ => rfl
  | [], (a, v) :: rest, lo, _, h', hr => by
    have := hr a
    simp only [Memory.wfFrom, Bool.and_eq_true, decide_eq_true_eq] at h'
    simp [Memory.read] at this
    exact absurd this.symm h'.1.2
  | (a, v) :: rest, [], lo, h, _, hr => by
    have := hr a
    simp only [Memory.wfFrom, Bool.and_eq_true, decide_eq_true_eq] at h
    simp [Memory.read] at this
    exact absurd this h.1.2
  | (a, v) :: rest, (b, w) :: rest', lo, h, h', hr => by
    simp only [Memory.wfFrom, Bool.and_eq_true, decide_eq_true_eq] at h h'
    have hab : a = b := by
      rcases Nat.lt_trichotomy a b with hlt | heq | hlt
      · have e := hr a
        have hb : ¬ b = a := by omega
        simp [Memory.read, hb, Memory.read_below rest' (b + 1) a h'.2 (by omega)] at e
        exact absurd e h.1.2
      · exact heq
      · have e := hr b
        have ha : ¬ a = b := by omega
        simp [Memory.read, ha, Memory.read_below rest (a + 1) b h.2 (by omega)] at e
        exact absurd e.symm h'.1.2
    subst hab
    have hv : v = w := by simpa [Memory.read] using hr a
    subst hv
    have hrest : rest = rest' := Memory.ext_of_read rest rest' (a + 1) h.2 h'.2 (fun c => by
      by_cases hc : a = c
      · subst hc
        rw [Memory.read_below rest (a + 1) a h.2 (by omega), Memory.read_below rest' (a + 1) a h'.2 (by omega)]
      · simpa [Memory.read, hc] using hr c)
    rw [hrest]

end Sys2Proof.Machine
end

