-- ==== Sys2Proof/Laws/State.lean ====
section
/-! SUPPORT. One lemma for each field after each register write, and for reads of memory after a register
write. -/

namespace Sys2Proof.Machine

/-! ### setA -/

@[simp] theorem State.setA_a (s : State) (v : Byte) : (s.setA v).a = v := rfl
@[simp] theorem State.setA_x (s : State) (v : Byte) : (s.setA v).x = s.x := rfl
@[simp] theorem State.setA_y (s : State) (v : Byte) : (s.setA v).y = s.y := rfl
@[simp] theorem State.setA_sp (s : State) (v : Byte) : (s.setA v).sp = s.sp := rfl
@[simp] theorem State.setA_pc (s : State) (v : Byte) : (s.setA v).pc = s.pc := rfl
@[simp] theorem State.setA_p (s : State) (v : Byte) : (s.setA v).p = s.p := rfl
@[simp] theorem State.setA_mem (s : State) (v : Byte) : (s.setA v).mem = s.mem := rfl
@[simp] theorem State.setA_nmiPending (s : State) (v : Byte) : (s.setA v).nmiPending = s.nmiPending := rfl
@[simp] theorem State.setA_iWindow (s : State) (v : Byte) : (s.setA v).iWindow = s.iWindow := rfl
@[simp] theorem State.setA_inputs (s : State) (v : Byte) : (s.setA v).inputs = s.inputs := rfl
@[simp] theorem State.setA_draws (s : State) (v : Byte) : (s.setA v).draws = s.draws := rfl
@[simp] theorem State.setA_params (s : State) (v : Byte) : (s.setA v).params = s.params := rfl
@[simp] theorem State.setA_platform (s : State) (v : Byte) : (s.setA v).platform = s.platform := rfl
@[simp] theorem State.setA_read (s : State) (v : Byte) (k : Config.Draw) (addr : Word) :
    (s.setA v).read k addr = s.read k addr := rfl
@[simp] theorem State.setA_read16 (s : State) (v : Byte) (addr : Word) : (s.setA v).read16 addr = s.read16 addr := rfl
@[simp] theorem State.setA_read16Zp (s : State) (v : Byte) (zp : Byte) : (s.setA v).read16Zp zp = s.read16Zp zp := rfl

/-! ### setX -/

@[simp] theorem State.setX_a (s : State) (v : Byte) : (s.setX v).a = s.a := rfl
@[simp] theorem State.setX_x (s : State) (v : Byte) : (s.setX v).x = v := rfl
@[simp] theorem State.setX_y (s : State) (v : Byte) : (s.setX v).y = s.y := rfl
@[simp] theorem State.setX_sp (s : State) (v : Byte) : (s.setX v).sp = s.sp := rfl
@[simp] theorem State.setX_pc (s : State) (v : Byte) : (s.setX v).pc = s.pc := rfl
@[simp] theorem State.setX_p (s : State) (v : Byte) : (s.setX v).p = s.p := rfl
@[simp] theorem State.setX_mem (s : State) (v : Byte) : (s.setX v).mem = s.mem := rfl
@[simp] theorem State.setX_nmiPending (s : State) (v : Byte) : (s.setX v).nmiPending = s.nmiPending := rfl
@[simp] theorem State.setX_iWindow (s : State) (v : Byte) : (s.setX v).iWindow = s.iWindow := rfl
@[simp] theorem State.setX_inputs (s : State) (v : Byte) : (s.setX v).inputs = s.inputs := rfl
@[simp] theorem State.setX_draws (s : State) (v : Byte) : (s.setX v).draws = s.draws := rfl
@[simp] theorem State.setX_params (s : State) (v : Byte) : (s.setX v).params = s.params := rfl
@[simp] theorem State.setX_platform (s : State) (v : Byte) : (s.setX v).platform = s.platform := rfl
@[simp] theorem State.setX_read (s : State) (v : Byte) (k : Config.Draw) (addr : Word) :
    (s.setX v).read k addr = s.read k addr := rfl
@[simp] theorem State.setX_read16 (s : State) (v : Byte) (addr : Word) : (s.setX v).read16 addr = s.read16 addr := rfl
@[simp] theorem State.setX_read16Zp (s : State) (v : Byte) (zp : Byte) : (s.setX v).read16Zp zp = s.read16Zp zp := rfl

/-! ### setY -/

@[simp] theorem State.setY_a (s : State) (v : Byte) : (s.setY v).a = s.a := rfl
@[simp] theorem State.setY_x (s : State) (v : Byte) : (s.setY v).x = s.x := rfl
@[simp] theorem State.setY_y (s : State) (v : Byte) : (s.setY v).y = v := rfl
@[simp] theorem State.setY_sp (s : State) (v : Byte) : (s.setY v).sp = s.sp := rfl
@[simp] theorem State.setY_pc (s : State) (v : Byte) : (s.setY v).pc = s.pc := rfl
@[simp] theorem State.setY_p (s : State) (v : Byte) : (s.setY v).p = s.p := rfl
@[simp] theorem State.setY_mem (s : State) (v : Byte) : (s.setY v).mem = s.mem := rfl
@[simp] theorem State.setY_nmiPending (s : State) (v : Byte) : (s.setY v).nmiPending = s.nmiPending := rfl
@[simp] theorem State.setY_iWindow (s : State) (v : Byte) : (s.setY v).iWindow = s.iWindow := rfl
@[simp] theorem State.setY_inputs (s : State) (v : Byte) : (s.setY v).inputs = s.inputs := rfl
@[simp] theorem State.setY_draws (s : State) (v : Byte) : (s.setY v).draws = s.draws := rfl
@[simp] theorem State.setY_params (s : State) (v : Byte) : (s.setY v).params = s.params := rfl
@[simp] theorem State.setY_platform (s : State) (v : Byte) : (s.setY v).platform = s.platform := rfl
@[simp] theorem State.setY_read (s : State) (v : Byte) (k : Config.Draw) (addr : Word) :
    (s.setY v).read k addr = s.read k addr := rfl
@[simp] theorem State.setY_read16 (s : State) (v : Byte) (addr : Word) : (s.setY v).read16 addr = s.read16 addr := rfl
@[simp] theorem State.setY_read16Zp (s : State) (v : Byte) (zp : Byte) : (s.setY v).read16Zp zp = s.read16Zp zp := rfl

/-! ### setSp -/

@[simp] theorem State.setSp_a (s : State) (v : Byte) : (s.setSp v).a = s.a := rfl
@[simp] theorem State.setSp_x (s : State) (v : Byte) : (s.setSp v).x = s.x := rfl
@[simp] theorem State.setSp_y (s : State) (v : Byte) : (s.setSp v).y = s.y := rfl
@[simp] theorem State.setSp_sp (s : State) (v : Byte) : (s.setSp v).sp = v := rfl
@[simp] theorem State.setSp_pc (s : State) (v : Byte) : (s.setSp v).pc = s.pc := rfl
@[simp] theorem State.setSp_p (s : State) (v : Byte) : (s.setSp v).p = s.p := rfl
@[simp] theorem State.setSp_mem (s : State) (v : Byte) : (s.setSp v).mem = s.mem := rfl
@[simp] theorem State.setSp_nmiPending (s : State) (v : Byte) : (s.setSp v).nmiPending = s.nmiPending := rfl
@[simp] theorem State.setSp_iWindow (s : State) (v : Byte) : (s.setSp v).iWindow = s.iWindow := rfl
@[simp] theorem State.setSp_inputs (s : State) (v : Byte) : (s.setSp v).inputs = s.inputs := rfl
@[simp] theorem State.setSp_draws (s : State) (v : Byte) : (s.setSp v).draws = s.draws := rfl
@[simp] theorem State.setSp_params (s : State) (v : Byte) : (s.setSp v).params = s.params := rfl
@[simp] theorem State.setSp_platform (s : State) (v : Byte) : (s.setSp v).platform = s.platform := rfl
@[simp] theorem State.setSp_read (s : State) (v : Byte) (k : Config.Draw) (addr : Word) :
    (s.setSp v).read k addr = s.read k addr := rfl
@[simp] theorem State.setSp_read16 (s : State) (v : Byte) (addr : Word) : (s.setSp v).read16 addr = s.read16 addr := rfl
@[simp] theorem State.setSp_read16Zp (s : State) (v : Byte) (zp : Byte) : (s.setSp v).read16Zp zp = s.read16Zp zp := rfl

/-! ### setPc -/

@[simp] theorem State.setPc_a (s : State) (v : Word) : (s.setPc v).a = s.a := rfl
@[simp] theorem State.setPc_x (s : State) (v : Word) : (s.setPc v).x = s.x := rfl
@[simp] theorem State.setPc_y (s : State) (v : Word) : (s.setPc v).y = s.y := rfl
@[simp] theorem State.setPc_sp (s : State) (v : Word) : (s.setPc v).sp = s.sp := rfl
@[simp] theorem State.setPc_pc (s : State) (v : Word) : (s.setPc v).pc = v := rfl
@[simp] theorem State.setPc_p (s : State) (v : Word) : (s.setPc v).p = s.p := rfl
@[simp] theorem State.setPc_mem (s : State) (v : Word) : (s.setPc v).mem = s.mem := rfl
@[simp] theorem State.setPc_nmiPending (s : State) (v : Word) : (s.setPc v).nmiPending = s.nmiPending := rfl
@[simp] theorem State.setPc_iWindow (s : State) (v : Word) : (s.setPc v).iWindow = s.iWindow := rfl
@[simp] theorem State.setPc_inputs (s : State) (v : Word) : (s.setPc v).inputs = s.inputs := rfl
@[simp] theorem State.setPc_draws (s : State) (v : Word) : (s.setPc v).draws = s.draws := rfl
@[simp] theorem State.setPc_params (s : State) (v : Word) : (s.setPc v).params = s.params := rfl
@[simp] theorem State.setPc_platform (s : State) (v : Word) : (s.setPc v).platform = s.platform := rfl
@[simp] theorem State.setPc_read (s : State) (v : Word) (k : Config.Draw) (addr : Word) :
    (s.setPc v).read k addr = s.read k addr := rfl
@[simp] theorem State.setPc_read16 (s : State) (v : Word) (addr : Word) : (s.setPc v).read16 addr = s.read16 addr := rfl
@[simp] theorem State.setPc_read16Zp (s : State) (v : Word) (zp : Byte) : (s.setPc v).read16Zp zp = s.read16Zp zp := rfl

/-! ### setP -/

@[simp] theorem State.setP_a (s : State) (v : Flags) : (s.setP v).a = s.a := rfl
@[simp] theorem State.setP_x (s : State) (v : Flags) : (s.setP v).x = s.x := rfl
@[simp] theorem State.setP_y (s : State) (v : Flags) : (s.setP v).y = s.y := rfl
@[simp] theorem State.setP_sp (s : State) (v : Flags) : (s.setP v).sp = s.sp := rfl
@[simp] theorem State.setP_pc (s : State) (v : Flags) : (s.setP v).pc = s.pc := rfl
@[simp] theorem State.setP_p (s : State) (v : Flags) : (s.setP v).p = v := rfl
@[simp] theorem State.setP_mem (s : State) (v : Flags) : (s.setP v).mem = s.mem := rfl
@[simp] theorem State.setP_nmiPending (s : State) (v : Flags) : (s.setP v).nmiPending = s.nmiPending := rfl
@[simp] theorem State.setP_iWindow (s : State) (v : Flags) : (s.setP v).iWindow = s.iWindow := rfl
@[simp] theorem State.setP_inputs (s : State) (v : Flags) : (s.setP v).inputs = s.inputs := rfl
@[simp] theorem State.setP_draws (s : State) (v : Flags) : (s.setP v).draws = s.draws := rfl
@[simp] theorem State.setP_params (s : State) (v : Flags) : (s.setP v).params = s.params := rfl
@[simp] theorem State.setP_platform (s : State) (v : Flags) : (s.setP v).platform = s.platform := rfl
@[simp] theorem State.setP_read (s : State) (v : Flags) (k : Config.Draw) (addr : Word) :
    (s.setP v).read k addr = s.read k addr := rfl
@[simp] theorem State.setP_read16 (s : State) (v : Flags) (addr : Word) : (s.setP v).read16 addr = s.read16 addr := rfl
@[simp] theorem State.setP_read16Zp (s : State) (v : Flags) (zp : Byte) : (s.setP v).read16Zp zp = s.read16Zp zp := rfl

/-! ### setMem -/

@[simp] theorem State.setMem_a (s : State) (v : Memory) : (s.setMem v).a = s.a := rfl
@[simp] theorem State.setMem_x (s : State) (v : Memory) : (s.setMem v).x = s.x := rfl
@[simp] theorem State.setMem_y (s : State) (v : Memory) : (s.setMem v).y = s.y := rfl
@[simp] theorem State.setMem_sp (s : State) (v : Memory) : (s.setMem v).sp = s.sp := rfl
@[simp] theorem State.setMem_pc (s : State) (v : Memory) : (s.setMem v).pc = s.pc := rfl
@[simp] theorem State.setMem_p (s : State) (v : Memory) : (s.setMem v).p = s.p := rfl
@[simp] theorem State.setMem_mem (s : State) (v : Memory) : (s.setMem v).mem = v := rfl
@[simp] theorem State.setMem_nmiPending (s : State) (v : Memory) : (s.setMem v).nmiPending = s.nmiPending := rfl
@[simp] theorem State.setMem_iWindow (s : State) (v : Memory) : (s.setMem v).iWindow = s.iWindow := rfl
@[simp] theorem State.setMem_inputs (s : State) (v : Memory) : (s.setMem v).inputs = s.inputs := rfl
@[simp] theorem State.setMem_draws (s : State) (v : Memory) : (s.setMem v).draws = s.draws := rfl
@[simp] theorem State.setMem_params (s : State) (v : Memory) : (s.setMem v).params = s.params := rfl
@[simp] theorem State.setMem_platform (s : State) (v : Memory) : (s.setMem v).platform = s.platform := rfl

/-! ### setNmiPending -/

@[simp] theorem State.setNmiPending_a (s : State) (v : Bool) : (s.setNmiPending v).a = s.a := rfl
@[simp] theorem State.setNmiPending_x (s : State) (v : Bool) : (s.setNmiPending v).x = s.x := rfl
@[simp] theorem State.setNmiPending_y (s : State) (v : Bool) : (s.setNmiPending v).y = s.y := rfl
@[simp] theorem State.setNmiPending_sp (s : State) (v : Bool) : (s.setNmiPending v).sp = s.sp := rfl
@[simp] theorem State.setNmiPending_pc (s : State) (v : Bool) : (s.setNmiPending v).pc = s.pc := rfl
@[simp] theorem State.setNmiPending_p (s : State) (v : Bool) : (s.setNmiPending v).p = s.p := rfl
@[simp] theorem State.setNmiPending_mem (s : State) (v : Bool) : (s.setNmiPending v).mem = s.mem := rfl
@[simp] theorem State.setNmiPending_nmiPending (s : State) (v : Bool) : (s.setNmiPending v).nmiPending = v := rfl
@[simp] theorem State.setNmiPending_iWindow (s : State) (v : Bool) : (s.setNmiPending v).iWindow = s.iWindow := rfl
@[simp] theorem State.setNmiPending_inputs (s : State) (v : Bool) : (s.setNmiPending v).inputs = s.inputs := rfl
@[simp] theorem State.setNmiPending_draws (s : State) (v : Bool) : (s.setNmiPending v).draws = s.draws := rfl
@[simp] theorem State.setNmiPending_params (s : State) (v : Bool) : (s.setNmiPending v).params = s.params := rfl
@[simp] theorem State.setNmiPending_platform (s : State) (v : Bool) : (s.setNmiPending v).platform = s.platform := rfl
@[simp] theorem State.setNmiPending_read (s : State) (v : Bool) (k : Config.Draw) (addr : Word) :
    (s.setNmiPending v).read k addr = s.read k addr := rfl
@[simp] theorem State.setNmiPending_read16 (s : State) (v : Bool) (addr : Word) : (s.setNmiPending v).read16 addr = s.read16 addr := rfl
@[simp] theorem State.setNmiPending_read16Zp (s : State) (v : Bool) (zp : Byte) : (s.setNmiPending v).read16Zp zp = s.read16Zp zp := rfl

/-! ### setIWindow -/

@[simp] theorem State.setIWindow_a (s : State) (v : Option Bool) : (s.setIWindow v).a = s.a := rfl
@[simp] theorem State.setIWindow_x (s : State) (v : Option Bool) : (s.setIWindow v).x = s.x := rfl
@[simp] theorem State.setIWindow_y (s : State) (v : Option Bool) : (s.setIWindow v).y = s.y := rfl
@[simp] theorem State.setIWindow_sp (s : State) (v : Option Bool) : (s.setIWindow v).sp = s.sp := rfl
@[simp] theorem State.setIWindow_pc (s : State) (v : Option Bool) : (s.setIWindow v).pc = s.pc := rfl
@[simp] theorem State.setIWindow_p (s : State) (v : Option Bool) : (s.setIWindow v).p = s.p := rfl
@[simp] theorem State.setIWindow_mem (s : State) (v : Option Bool) : (s.setIWindow v).mem = s.mem := rfl
@[simp] theorem State.setIWindow_nmiPending (s : State) (v : Option Bool) : (s.setIWindow v).nmiPending = s.nmiPending := rfl
@[simp] theorem State.setIWindow_iWindow (s : State) (v : Option Bool) : (s.setIWindow v).iWindow = v := rfl
@[simp] theorem State.setIWindow_inputs (s : State) (v : Option Bool) : (s.setIWindow v).inputs = s.inputs := rfl
@[simp] theorem State.setIWindow_draws (s : State) (v : Option Bool) : (s.setIWindow v).draws = s.draws := rfl
@[simp] theorem State.setIWindow_params (s : State) (v : Option Bool) : (s.setIWindow v).params = s.params := rfl
@[simp] theorem State.setIWindow_platform (s : State) (v : Option Bool) : (s.setIWindow v).platform = s.platform := rfl
@[simp] theorem State.setIWindow_read (s : State) (v : Option Bool) (k : Config.Draw) (addr : Word) :
    (s.setIWindow v).read k addr = s.read k addr := rfl
@[simp] theorem State.setIWindow_read16 (s : State) (v : Option Bool) (addr : Word) : (s.setIWindow v).read16 addr = s.read16 addr := rfl
@[simp] theorem State.setIWindow_read16Zp (s : State) (v : Option Bool) (zp : Byte) : (s.setIWindow v).read16Zp zp = s.read16Zp zp := rfl

/-! ### advance -/

@[simp] theorem State.advance_a (s : State) (n : Nat) : (s.advance n).a = s.a := rfl
@[simp] theorem State.advance_x (s : State) (n : Nat) : (s.advance n).x = s.x := rfl
@[simp] theorem State.advance_y (s : State) (n : Nat) : (s.advance n).y = s.y := rfl
@[simp] theorem State.advance_sp (s : State) (n : Nat) : (s.advance n).sp = s.sp := rfl
@[simp] theorem State.advance_pc (s : State) (n : Nat) : (s.advance n).pc = s.pc + BitVec.ofNat 16 n := rfl
@[simp] theorem State.advance_p (s : State) (n : Nat) : (s.advance n).p = s.p := rfl
@[simp] theorem State.advance_mem (s : State) (n : Nat) : (s.advance n).mem = s.mem := rfl
@[simp] theorem State.advance_nmiPending (s : State) (n : Nat) : (s.advance n).nmiPending = s.nmiPending := rfl
@[simp] theorem State.advance_iWindow (s : State) (n : Nat) : (s.advance n).iWindow = s.iWindow := rfl
@[simp] theorem State.advance_inputs (s : State) (n : Nat) : (s.advance n).inputs = s.inputs := rfl
@[simp] theorem State.advance_draws (s : State) (n : Nat) : (s.advance n).draws = s.draws := rfl
@[simp] theorem State.advance_params (s : State) (n : Nat) : (s.advance n).params = s.params := rfl
@[simp] theorem State.advance_platform (s : State) (n : Nat) : (s.advance n).platform = s.platform := rfl
@[simp] theorem State.advance_read (s : State) (n : Nat) (k : Config.Draw) (addr : Word) :
    (s.advance n).read k addr = s.read k addr := rfl
@[simp] theorem State.advance_load (s : State) (n : Nat) (r : MemRef) : (s.advance n).load r = s.load r := by
  cases r <;> rfl
@[simp] theorem effectiveAddr_advance (s : State) (n : Nat) (r : MemRef) :
    effectiveAddr r (s.advance n) = effectiveAddr r s := by
  cases r <;> rfl

/-! ### The boundary -/

@[simp] theorem State.arrive_a (s : State) : s.arrive.a = s.a := rfl
@[simp] theorem State.arrive_x (s : State) : s.arrive.x = s.x := rfl
@[simp] theorem State.arrive_y (s : State) : s.arrive.y = s.y := rfl
@[simp] theorem State.arrive_sp (s : State) : s.arrive.sp = s.sp := rfl
@[simp] theorem State.arrive_pc (s : State) : s.arrive.pc = s.pc := rfl
@[simp] theorem State.arrive_p (s : State) : s.arrive.p = s.p := rfl
@[simp] theorem State.arrive_mem (s : State) : s.arrive.mem = s.mem := rfl
@[simp] theorem State.arrive_nmiPending (s : State) : s.arrive.nmiPending = (s.nmiPending || s.input.nmiEdge) := rfl
@[simp] theorem State.arrive_iWindow (s : State) : s.arrive.iWindow = s.iWindow := rfl
@[simp] theorem State.arrive_inputs (s : State) : s.arrive.inputs = s.inputs.tail := rfl
@[simp] theorem State.arrive_draws (s : State) : s.arrive.draws = s.draws + 1 := rfl
@[simp] theorem State.arrive_params (s : State) : s.arrive.params = s.params := rfl
@[simp] theorem State.arrive_platform (s : State) : s.arrive.platform = s.platform := rfl

@[simp] theorem State.ready_a (s : State) : s.ready.a = s.a := rfl
@[simp] theorem State.ready_x (s : State) : s.ready.x = s.x := rfl
@[simp] theorem State.ready_y (s : State) : s.ready.y = s.y := rfl
@[simp] theorem State.ready_sp (s : State) : s.ready.sp = s.sp := rfl
@[simp] theorem State.ready_pc (s : State) : s.ready.pc = s.pc := rfl
@[simp] theorem State.ready_p (s : State) : s.ready.p = s.p := rfl
@[simp] theorem State.ready_mem (s : State) : s.ready.mem = s.mem := rfl
@[simp] theorem State.ready_nmiPending (s : State) : s.ready.nmiPending = (s.nmiPending || s.input.nmiEdge) := rfl
@[simp] theorem State.ready_iWindow (s : State) : s.ready.iWindow = none := rfl
@[simp] theorem State.ready_inputs (s : State) : s.ready.inputs = s.inputs.tail := rfl
@[simp] theorem State.ready_draws (s : State) : s.ready.draws = s.draws + 1 := rfl
@[simp] theorem State.ready_params (s : State) : s.ready.params = s.params := rfl
@[simp] theorem State.ready_platform (s : State) : s.ready.platform = s.platform := rfl

@[simp] theorem State.quiet_a (s : State) : s.quiet.a = s.a := rfl
@[simp] theorem State.quiet_x (s : State) : s.quiet.x = s.x := rfl
@[simp] theorem State.quiet_y (s : State) : s.quiet.y = s.y := rfl
@[simp] theorem State.quiet_sp (s : State) : s.quiet.sp = s.sp := rfl
@[simp] theorem State.quiet_pc (s : State) : s.quiet.pc = s.pc := rfl
@[simp] theorem State.quiet_p (s : State) : s.quiet.p = s.p := rfl
@[simp] theorem State.quiet_mem (s : State) : s.quiet.mem = s.mem := rfl
@[simp] theorem State.quiet_nmiPending (s : State) : s.quiet.nmiPending = false := rfl
@[simp] theorem State.quiet_iWindow (s : State) : s.quiet.iWindow = s.iWindow := rfl
@[simp] theorem State.quiet_inputs (s : State) : s.quiet.inputs = [] := rfl
@[simp] theorem State.quiet_draws (s : State) : s.quiet.draws = s.draws := rfl
@[simp] theorem State.quiet_params (s : State) : s.quiet.params = s.params := rfl
@[simp] theorem State.quiet_platform (s : State) : s.quiet.platform = s.platform := rfl

end Sys2Proof.Machine
end

