-- ==== Sys2Proof/Laws/Ops.lean ====
section
/-! SUPPORT. One lemma for each shared operation that says all it can do: memory accesses on a state, the stack,
the exception entry and return, the operand shapes, and the step. -/

namespace Sys2Proof.Machine

/-! ### Writes on a state -/

/-- A write changes at most the memory. -/
theorem State.write_eq (s : State) (addr : Word) (v : Byte) :
    s.write addr v = { s with mem := (s.write addr v).mem } := by
  unfold State.write
  split <;> rfl

/-- What the memory holds after a write. -/
theorem State.write_mem (s : State) (addr : Word) (v : Byte) :
    (s.write addr v).mem =
      if takesWrite (kindAt s.platform addr) then s.mem.write addr.toNat v else s.mem := by
  unfold State.write
  split <;> rfl

@[simp] theorem State.write_a (s : State) (addr : Word) (v : Byte) : (s.write addr v).a = s.a := by
  rw [State.write_eq]
@[simp] theorem State.write_x (s : State) (addr : Word) (v : Byte) : (s.write addr v).x = s.x := by
  rw [State.write_eq]
@[simp] theorem State.write_y (s : State) (addr : Word) (v : Byte) : (s.write addr v).y = s.y := by
  rw [State.write_eq]
@[simp] theorem State.write_sp (s : State) (addr : Word) (v : Byte) : (s.write addr v).sp = s.sp := by
  rw [State.write_eq]
@[simp] theorem State.write_pc (s : State) (addr : Word) (v : Byte) : (s.write addr v).pc = s.pc := by
  rw [State.write_eq]
@[simp] theorem State.write_p (s : State) (addr : Word) (v : Byte) : (s.write addr v).p = s.p := by
  rw [State.write_eq]
@[simp] theorem State.write_nmiPending (s : State) (addr : Word) (v : Byte) :
    (s.write addr v).nmiPending = s.nmiPending := by
  rw [State.write_eq]
@[simp] theorem State.write_iWindow (s : State) (addr : Word) (v : Byte) :
    (s.write addr v).iWindow = s.iWindow := by
  rw [State.write_eq]
@[simp] theorem State.write_inputs (s : State) (addr : Word) (v : Byte) :
    (s.write addr v).inputs = s.inputs := by
  rw [State.write_eq]
@[simp] theorem State.write_draws (s : State) (addr : Word) (v : Byte) :
    (s.write addr v).draws = s.draws := by
  rw [State.write_eq]
@[simp] theorem State.write_params (s : State) (addr : Word) (v : Byte) :
    (s.write addr v).params = s.params := by
  rw [State.write_eq]
@[simp] theorem State.write_platform (s : State) (addr : Word) (v : Byte) :
    (s.write addr v).platform = s.platform := by
  rw [State.write_eq]

/-- A write does not look at `pc`. -/
theorem State.write_advance (s : State) (n : Nat) (addr : Word) (v : Byte) :
    (s.advance n).write addr v = (s.write addr v).advance n := by
  unfold State.write
  by_cases h : takesWrite (kindAt s.platform addr) = true
  · simp only [State.advance_platform, State.advance_mem, h, if_true]; rfl
  · simp [h]

/-- What a read gives after a write: the byte written where a write is taken and the address is the same,
else what it gave before (R32). -/
theorem State.read_write (s : State) (addr b : Word) (v : Byte) (k : Config.Draw) (h : s.mem.wf = true) :
    (s.write addr v).read k b =
      if takesWrite (kindAt s.platform addr) = true ∧ b = addr then v else s.read k b := by
  unfold State.read
  rw [State.write_platform, State.write_draws, State.write_mem]
  by_cases hw : takesWrite (kindAt s.platform addr) = true
  · simp only [hw, if_true, true_and]
    simp only [Memory.read_write _ _ _ _ 0 h, BitVec.toNat_inj]
    by_cases hb : b = addr
    · subst hb
      have : holdsByte (kindAt s.platform b) = true := by
        revert hw; cases kindAt s.platform b <;> decide
      simp [this]
    · simp [hb]
  · simp [hw]

/-- A write keeps the canonical form of memory. -/
theorem State.write_wf (s : State) (addr : Word) (v : Byte) (h : s.mem.wf = true) :
    (s.write addr v).mem.wf = true := by
  rw [State.write_mem]
  split
  · exact Memory.write_wf _ _ _ h
  · exact h

/-! ### The stack -/

/-- A push changes SP and at most the memory (R130). -/
theorem State.push_eq (s : State) (v : Byte) :
    s.push v = { s with sp := s.sp - 1, mem := (s.write (stackAddr s.sp) v).mem } := by
  unfold State.push
  rw [State.write_eq]
  rfl

@[simp] theorem State.push_a (s : State) (v : Byte) : (s.push v).a = s.a := by rw [State.push_eq]
@[simp] theorem State.push_x (s : State) (v : Byte) : (s.push v).x = s.x := by rw [State.push_eq]
@[simp] theorem State.push_y (s : State) (v : Byte) : (s.push v).y = s.y := by rw [State.push_eq]
@[simp] theorem State.push_sp (s : State) (v : Byte) : (s.push v).sp = s.sp - 1 := by rw [State.push_eq]
@[simp] theorem State.push_pc (s : State) (v : Byte) : (s.push v).pc = s.pc := by rw [State.push_eq]
@[simp] theorem State.push_p (s : State) (v : Byte) : (s.push v).p = s.p := by rw [State.push_eq]
@[simp] theorem State.push_nmiPending (s : State) (v : Byte) : (s.push v).nmiPending = s.nmiPending := by
  rw [State.push_eq]
@[simp] theorem State.push_iWindow (s : State) (v : Byte) : (s.push v).iWindow = s.iWindow := by
  rw [State.push_eq]
@[simp] theorem State.push_inputs (s : State) (v : Byte) : (s.push v).inputs = s.inputs := by rw [State.push_eq]
@[simp] theorem State.push_draws (s : State) (v : Byte) : (s.push v).draws = s.draws := by rw [State.push_eq]
@[simp] theorem State.push_params (s : State) (v : Byte) : (s.push v).params = s.params := by rw [State.push_eq]
@[simp] theorem State.push_platform (s : State) (v : Byte) : (s.push v).platform = s.platform := by
  rw [State.push_eq]
@[simp] theorem State.push_mem (s : State) (v : Byte) : (s.push v).mem = (s.write (stackAddr s.sp) v).mem := by
  rw [State.push_eq]

/-- What a read gives after a push: the byte pushed at the stack address, where a write is taken there, else what it
gave before (R130). -/
theorem State.read_push (s : State) (v : Byte) (k : Config.Draw) (b : Word) (h : s.mem.wf = true) :
    (s.push v).read k b =
      if takesWrite (kindAt s.platform (stackAddr s.sp)) = true ∧ b = stackAddr s.sp then v else s.read k b :=
  State.read_write s (stackAddr s.sp) b v k h

/-- A push keeps the canonical form of memory. -/
theorem State.push_wf (s : State) (v : Byte) (h : s.mem.wf = true) : (s.push v).mem.wf = true := by
  rw [State.push_mem]
  exact State.write_wf s _ _ h

/-- A pull answers the byte above SP and moves SP (R131). -/
theorem State.pull_eq (s : State) (k : Config.Draw) :
    s.pull k = (s.read k (stackAddr (s.sp + 1)), { s with sp := s.sp + 1 }) := rfl

/-- `Interrupt` changes SP, PC, the flags I and D, and the memory (R172). -/
theorem State.interrupt_eq (s : State) (vector : Word) (b : Bool) :
    s.interrupt vector b =
      { s with
        sp := s.sp - 1 - 1 - 1
        pc := (s.interrupt vector b).pc
        p := s.p.entered s.params.clearDOnInterrupt
        mem := ((s.push16 s.pc).push (s.p.toByte b)).mem } := by
  simp [State.interrupt, State.push16, State.push_eq, State.setP, State.setPc]

@[simp] theorem State.interrupt_a (s : State) (vector : Word) (b : Bool) :
    (s.interrupt vector b).a = s.a := by
  rw [State.interrupt_eq]
@[simp] theorem State.interrupt_x (s : State) (vector : Word) (b : Bool) :
    (s.interrupt vector b).x = s.x := by
  rw [State.interrupt_eq]
@[simp] theorem State.interrupt_y (s : State) (vector : Word) (b : Bool) :
    (s.interrupt vector b).y = s.y := by
  rw [State.interrupt_eq]
@[simp] theorem State.interrupt_nmiPending (s : State) (vector : Word) (b : Bool) :
    (s.interrupt vector b).nmiPending = s.nmiPending := by
  rw [State.interrupt_eq]
@[simp] theorem State.interrupt_iWindow (s : State) (vector : Word) (b : Bool) :
    (s.interrupt vector b).iWindow = s.iWindow := by
  rw [State.interrupt_eq]
@[simp] theorem State.interrupt_inputs (s : State) (vector : Word) (b : Bool) :
    (s.interrupt vector b).inputs = s.inputs := by
  rw [State.interrupt_eq]
@[simp] theorem State.interrupt_draws (s : State) (vector : Word) (b : Bool) :
    (s.interrupt vector b).draws = s.draws := by
  rw [State.interrupt_eq]
@[simp] theorem State.interrupt_params (s : State) (vector : Word) (b : Bool) :
    (s.interrupt vector b).params = s.params := by
  rw [State.interrupt_eq]
@[simp] theorem State.interrupt_platform (s : State) (vector : Word) (b : Bool) :
    (s.interrupt vector b).platform = s.platform := by
  rw [State.interrupt_eq]
@[simp] theorem State.interrupt_sp (s : State) (vector : Word) (b : Bool) :
    (s.interrupt vector b).sp = s.sp - 3 := by
  rw [State.interrupt_eq]
  bv_omega
@[simp] theorem State.interrupt_p (s : State) (vector : Word) (b : Bool) :
    (s.interrupt vector b).p = s.p.entered s.params.clearDOnInterrupt := by
  rw [State.interrupt_eq]
@[simp] theorem State.interrupt_mem (s : State) (vector : Word) (b : Bool) :
    (s.interrupt vector b).mem = ((s.push16 s.pc).push (s.p.toByte b)).mem := by
  rw [State.interrupt_eq]

/-- The entry keeps the canonical form of memory. -/
theorem State.interrupt_wf (s : State) (vector : Word) (b : Bool) (h : s.mem.wf = true) :
    (s.interrupt vector b).mem.wf = true := by
  rw [State.interrupt_eq]
  exact State.push_wf _ _ (State.push_wf _ _ (State.push_wf _ _ h))

/-- The return from an exception (R169). -/
theorem State.returnFromInterrupt_eq (s : State) :
    s.returnFromInterrupt =
      { s with
        sp := s.sp + 1 + 1 + 1
        p := Flags.ofByte (s.read .pull1 (stackAddr (s.sp + 1)))
        pc := cat (s.read .pull3 (stackAddr (s.sp + 1 + 1 + 1))) (s.read .pull2 (stackAddr (s.sp + 1 + 1))) } := rfl

/-! ### The operand shapes -/

/-- An instruction that modifies memory answers this state. -/
theorem modifyMem_eq (r : MemRef) (op : Byte → Flags → Byte × Flags) (s : State) :
    modifyMem r op s =
      .next ({ (s.write (effectiveAddr r s) (op (s.load r) s.p).1) with
        p := (op (s.load r) s.p).2
        pc := s.pc + BitVec.ofNat 16 r.mode.length }) := by
  simp only [modifyMem, State.advance_load, effectiveAddr_advance, State.advance_p, State.write_advance]
  rw [State.write_eq]
  rfl

/-- An instruction that stores answers this state. -/
theorem storeMem_eq (r : MemRef) (v : State → Byte) (s : State) (h : v (s.advance r.mode.length) = v s) :
    storeMem r v s =
      .next { (s.write (effectiveAddr r s) (v s)) with pc := s.pc + BitVec.ofNat 16 r.mode.length } := by
  simp only [storeMem, effectiveAddr_advance, h, State.write_advance]
  rw [State.write_eq]
  rfl

/-! ### The step -/

/-- Every instruction answers a next state: none of them faults (R9). -/
theorem exec_completes (i : Instr) (s : State) : ∃ t, exec i s = .next t := by
  cases i <;> exact ⟨_, rfl⟩

/-- A step that answers a next state is one of the six events of the boundary. -/
theorem step_cases {s t : State} (h : step s = .next t) :
    (s.event = .reset ∧ t = s.arrive.resetEntry) ∨
    (s.event = .soEdge ∧ t = s.arrive.soEdge) ∨
    (∃ addr v, s.event = .change addr v ∧ t = s.arrive.deviceChange addr v) ∨
    (s.event = .nmi ∧ t = s.ready.nmiEntry) ∨
    (s.event = .irq ∧ t = s.ready.irqEntry) ∨
    (s.event = .instruction ∧ ∃ i, s.ready.fetch = some i ∧ exec i s.ready = .next t) := by
  unfold step at h
  split at h
  · rename_i he; injection h with h; exact .inl ⟨he, h.symm⟩
  · rename_i he; injection h with h; exact .inr (.inl ⟨he, h.symm⟩)
  · rename_i addr v he; injection h with h; exact .inr (.inr (.inl ⟨addr, v, he, h.symm⟩))
  · rename_i he; injection h with h; exact .inr (.inr (.inr (.inl ⟨he, h.symm⟩)))
  · rename_i he; injection h with h; exact .inr (.inr (.inr (.inr (.inl ⟨he, h.symm⟩))))
  · rename_i he
    unfold runInstruction at h
    split at h
    · rename_i i hf; exact .inr (.inr (.inr (.inr (.inr ⟨he, i, hf, h⟩))))
    · cases h

/-- The one way a step stops: an opcode byte that is not valid (R74). -/
theorem step_fault {s : State} {f : Fault} (h : step s = .fault f) :
    s.event = .instruction ∧ s.ready.fetch = none ∧ f = .illegalOpcode s.ready.opcode := by
  unfold step at h
  split at h <;> try cases h
  rename_i he
  unfold runInstruction at h
  split at h
  · rename_i i hf
    obtain ⟨t, ht⟩ := exec_completes i s.ready
    rw [ht] at h; cases h
  · rename_i hf; injection h with h; exact ⟨he, hf, h.symm⟩

end Sys2Proof.Machine
end

