-- ==== Sys2Proof/Laws/Effects.lean ====
section
/-! SUPPORT. One lemma for each effect that several instructions share, or that has more than one case: the fields
it writes, every other field as it was. -/

namespace Sys2Proof.Machine

/-- ADC writes A and P. -/
theorem addWithCarry_eq (m : Byte) (s : State) :
    addWithCarry m s = { s with a := (addWithCarry m s).a, p := (addWithCarry m s).p } := by
  unfold addWithCarry
  split <;> rfl

/-- SBC writes A and P. -/
theorem subtractWithCarry_eq (m : Byte) (s : State) :
    subtractWithCarry m s = { s with a := (subtractWithCarry m s).a, p := (subtractWithCarry m s).p } := by
  unfold subtractWithCarry
  split <;> rfl

/-- ADC and SBC leave D and I as they were. -/
theorem addWithCarry_d_i (m : Byte) (s : State) :
    (addWithCarry m s).p.d = s.p.d ∧ (addWithCarry m s).p.i = s.p.i := by
  unfold addWithCarry
  split <;> exact ⟨rfl, rfl⟩

theorem subtractWithCarry_d_i (m : Byte) (s : State) :
    (subtractWithCarry m s).p.d = s.p.d ∧ (subtractWithCarry m s).p.i = s.p.i := by
  unfold subtractWithCarry
  split <;> exact ⟨rfl, rfl⟩

/-- Outside decimal mode ADC is the binary addition (R101). -/
theorem addWithCarry_binary (m : Byte) (s : State) (h : decimalMode s = false) :
    addWithCarry m s = setSum (addBinary s.a m s.p.c) s := by
  simp [addWithCarry, h]

/-- Outside decimal mode SBC is the binary subtraction (R103). -/
theorem subtractWithCarry_binary (m : Byte) (s : State) (h : decimalMode s = false) :
    subtractWithCarry m s = setSum (subBinary s.a m s.p.c) s := by
  simp [subtractWithCarry, h]

/-- In decimal mode ADC of valid BCD gives the decimal sum and its carry (R102). -/
theorem addWithCarry_decimal (m : Byte) (s : State) (h : decimalMode s = true) (ha : validBcd s.a = true)
    (hm : validBcd m = true) :
    (addWithCarry m s).a = (addDecimal s.a m s.p.c).1 ∧ (addWithCarry m s).p.c = (addDecimal s.a m s.p.c).2 := by
  simp [addWithCarry, h, setDecimal, ha, hm]

/-- In decimal mode SBC of valid BCD gives the decimal difference, and C where there is no borrow (R102). -/
theorem subtractWithCarry_decimal (m : Byte) (s : State) (h : decimalMode s = true) (ha : validBcd s.a = true)
    (hm : validBcd m = true) :
    (subtractWithCarry m s).a = (subDecimal s.a m s.p.c).1 ∧
    (subtractWithCarry m s).p.c = (subDecimal s.a m s.p.c).2 := by
  simp [subtractWithCarry, h, setDecimal, ha, hm]

/-- A branch writes `pc` (R144). -/
theorem branchIf_eq (cond : Flags → Bool) (disp : Byte) (s : State) :
    branchIf cond disp s =
      .next { s with
        pc := if cond s.p then branchTarget (s.pc + BitVec.ofNat 16 2) disp else s.pc + BitVec.ofNat 16 2 } := by
  have h : branchIf cond disp s = .next (if cond s.p then (s.advance 2).setPc (branchTarget (s.advance 2).pc disp)
      else s.advance 2) := rfl
  rw [h]
  cases cond s.p <;> rfl

/-- Two bytes pushed: SP and memory change. -/
theorem State.push16_eq (s : State) (w : Word) :
    s.push16 w = { s with sp := s.sp - 1 - 1, mem := (s.push16 w).mem } := by
  unfold State.push16
  rw [State.push_eq, State.push_eq]

/-- JSR writes `pc`, SP and memory (R142). -/
theorem callSubroutine_eq (w : Word) (s : State) :
    callSubroutine w s = { s with pc := w, sp := s.sp - 1 - 1, mem := (s.push16 (s.pc - 1)).mem } := by
  unfold callSubroutine
  rw [State.push16_eq]
  rfl

/-- RTS writes `pc` and SP (R143). -/
theorem returnFromSubroutine_eq (s : State) :
    returnFromSubroutine s = { s with
      sp := s.sp + 1 + 1
      pc := cat (s.read .pull2 (stackAddr (s.sp + 1 + 1))) (s.read .pull1 (stackAddr (s.sp + 1))) + 1 } := rfl

/-- PLA writes A, SP, N and Z (R133). -/
theorem pullA_eq (s : State) :
    pullA s = { s with
      a := s.read .pull1 (stackAddr (s.sp + 1))
      sp := s.sp + 1
      p := s.p.setNZ (s.read .pull1 (stackAddr (s.sp + 1))) } := rfl

/-- PLP writes P and SP, and opens the boundary of R178 (R135). -/
theorem pullP_eq (s : State) :
    pullP s = { s with
      sp := s.sp + 1
      p := Flags.ofByte (s.read .pull1 (stackAddr (s.sp + 1)))
      iWindow := some s.p.i } := rfl

end Sys2Proof.Machine
end

