-- ==== Sys2Proof/Laws/PerInstr.lean ====
section
/-! SUPPORT. The family `Encoding`, one lemma for each constructor of `Instr`: the instruction's form is one of
R75's, and its encoding has the length of its mode (30_encoding.md R50, R51). -/

namespace Sys2Proof.Laws

/-- The form exists and the encoding has the length of the mode. -/
def Encoding.Statement (i : Instr) : Prop := i.wellFormed = true ∧ (encode i).length = i.length

theorem Encoding.ldaImm (b : Byte) : Encoding.Statement (.ldaImm b) := ⟨rfl, rfl⟩
theorem Encoding.ldaZp (b : Byte) : Encoding.Statement (.ldaZp b) := ⟨rfl, rfl⟩
theorem Encoding.ldaZpx (b : Byte) : Encoding.Statement (.ldaZpx b) := ⟨rfl, rfl⟩
theorem Encoding.ldaAbs (w : Word) : Encoding.Statement (.ldaAbs w) := ⟨rfl, rfl⟩
theorem Encoding.ldaAbx (w : Word) : Encoding.Statement (.ldaAbx w) := ⟨rfl, rfl⟩
theorem Encoding.ldaAby (w : Word) : Encoding.Statement (.ldaAby w) := ⟨rfl, rfl⟩
theorem Encoding.ldaIzx (b : Byte) : Encoding.Statement (.ldaIzx b) := ⟨rfl, rfl⟩
theorem Encoding.ldaIzy (b : Byte) : Encoding.Statement (.ldaIzy b) := ⟨rfl, rfl⟩
theorem Encoding.ldxImm (b : Byte) : Encoding.Statement (.ldxImm b) := ⟨rfl, rfl⟩
theorem Encoding.ldxZp (b : Byte) : Encoding.Statement (.ldxZp b) := ⟨rfl, rfl⟩
theorem Encoding.ldxZpy (b : Byte) : Encoding.Statement (.ldxZpy b) := ⟨rfl, rfl⟩
theorem Encoding.ldxAbs (w : Word) : Encoding.Statement (.ldxAbs w) := ⟨rfl, rfl⟩
theorem Encoding.ldxAby (w : Word) : Encoding.Statement (.ldxAby w) := ⟨rfl, rfl⟩
theorem Encoding.ldyImm (b : Byte) : Encoding.Statement (.ldyImm b) := ⟨rfl, rfl⟩
theorem Encoding.ldyZp (b : Byte) : Encoding.Statement (.ldyZp b) := ⟨rfl, rfl⟩
theorem Encoding.ldyZpx (b : Byte) : Encoding.Statement (.ldyZpx b) := ⟨rfl, rfl⟩
theorem Encoding.ldyAbs (w : Word) : Encoding.Statement (.ldyAbs w) := ⟨rfl, rfl⟩
theorem Encoding.ldyAbx (w : Word) : Encoding.Statement (.ldyAbx w) := ⟨rfl, rfl⟩
theorem Encoding.staZp (b : Byte) : Encoding.Statement (.staZp b) := ⟨rfl, rfl⟩
theorem Encoding.staZpx (b : Byte) : Encoding.Statement (.staZpx b) := ⟨rfl, rfl⟩
theorem Encoding.staAbs (w : Word) : Encoding.Statement (.staAbs w) := ⟨rfl, rfl⟩
theorem Encoding.staAbx (w : Word) : Encoding.Statement (.staAbx w) := ⟨rfl, rfl⟩
theorem Encoding.staAby (w : Word) : Encoding.Statement (.staAby w) := ⟨rfl, rfl⟩
theorem Encoding.staIzx (b : Byte) : Encoding.Statement (.staIzx b) := ⟨rfl, rfl⟩
theorem Encoding.staIzy (b : Byte) : Encoding.Statement (.staIzy b) := ⟨rfl, rfl⟩
theorem Encoding.stxZp (b : Byte) : Encoding.Statement (.stxZp b) := ⟨rfl, rfl⟩
theorem Encoding.stxZpy (b : Byte) : Encoding.Statement (.stxZpy b) := ⟨rfl, rfl⟩
theorem Encoding.stxAbs (w : Word) : Encoding.Statement (.stxAbs w) := ⟨rfl, rfl⟩
theorem Encoding.styZp (b : Byte) : Encoding.Statement (.styZp b) := ⟨rfl, rfl⟩
theorem Encoding.styZpx (b : Byte) : Encoding.Statement (.styZpx b) := ⟨rfl, rfl⟩
theorem Encoding.styAbs (w : Word) : Encoding.Statement (.styAbs w) := ⟨rfl, rfl⟩
theorem Encoding.tax : Encoding.Statement .tax := ⟨rfl, rfl⟩
theorem Encoding.tay : Encoding.Statement .tay := ⟨rfl, rfl⟩
theorem Encoding.txa : Encoding.Statement .txa := ⟨rfl, rfl⟩
theorem Encoding.tya : Encoding.Statement .tya := ⟨rfl, rfl⟩
theorem Encoding.tsx : Encoding.Statement .tsx := ⟨rfl, rfl⟩
theorem Encoding.txs : Encoding.Statement .txs := ⟨rfl, rfl⟩
theorem Encoding.adcImm (b : Byte) : Encoding.Statement (.adcImm b) := ⟨rfl, rfl⟩
theorem Encoding.adcZp (b : Byte) : Encoding.Statement (.adcZp b) := ⟨rfl, rfl⟩
theorem Encoding.adcZpx (b : Byte) : Encoding.Statement (.adcZpx b) := ⟨rfl, rfl⟩
theorem Encoding.adcAbs (w : Word) : Encoding.Statement (.adcAbs w) := ⟨rfl, rfl⟩
theorem Encoding.adcAbx (w : Word) : Encoding.Statement (.adcAbx w) := ⟨rfl, rfl⟩
theorem Encoding.adcAby (w : Word) : Encoding.Statement (.adcAby w) := ⟨rfl, rfl⟩
theorem Encoding.adcIzx (b : Byte) : Encoding.Statement (.adcIzx b) := ⟨rfl, rfl⟩
theorem Encoding.adcIzy (b : Byte) : Encoding.Statement (.adcIzy b) := ⟨rfl, rfl⟩
theorem Encoding.sbcImm (b : Byte) : Encoding.Statement (.sbcImm b) := ⟨rfl, rfl⟩
theorem Encoding.sbcZp (b : Byte) : Encoding.Statement (.sbcZp b) := ⟨rfl, rfl⟩
theorem Encoding.sbcZpx (b : Byte) : Encoding.Statement (.sbcZpx b) := ⟨rfl, rfl⟩
theorem Encoding.sbcAbs (w : Word) : Encoding.Statement (.sbcAbs w) := ⟨rfl, rfl⟩
theorem Encoding.sbcAbx (w : Word) : Encoding.Statement (.sbcAbx w) := ⟨rfl, rfl⟩
theorem Encoding.sbcAby (w : Word) : Encoding.Statement (.sbcAby w) := ⟨rfl, rfl⟩
theorem Encoding.sbcIzx (b : Byte) : Encoding.Statement (.sbcIzx b) := ⟨rfl, rfl⟩
theorem Encoding.sbcIzy (b : Byte) : Encoding.Statement (.sbcIzy b) := ⟨rfl, rfl⟩
theorem Encoding.cmpImm (b : Byte) : Encoding.Statement (.cmpImm b) := ⟨rfl, rfl⟩
theorem Encoding.cmpZp (b : Byte) : Encoding.Statement (.cmpZp b) := ⟨rfl, rfl⟩
theorem Encoding.cmpZpx (b : Byte) : Encoding.Statement (.cmpZpx b) := ⟨rfl, rfl⟩
theorem Encoding.cmpAbs (w : Word) : Encoding.Statement (.cmpAbs w) := ⟨rfl, rfl⟩
theorem Encoding.cmpAbx (w : Word) : Encoding.Statement (.cmpAbx w) := ⟨rfl, rfl⟩
theorem Encoding.cmpAby (w : Word) : Encoding.Statement (.cmpAby w) := ⟨rfl, rfl⟩
theorem Encoding.cmpIzx (b : Byte) : Encoding.Statement (.cmpIzx b) := ⟨rfl, rfl⟩
theorem Encoding.cmpIzy (b : Byte) : Encoding.Statement (.cmpIzy b) := ⟨rfl, rfl⟩
theorem Encoding.cpxImm (b : Byte) : Encoding.Statement (.cpxImm b) := ⟨rfl, rfl⟩
theorem Encoding.cpxZp (b : Byte) : Encoding.Statement (.cpxZp b) := ⟨rfl, rfl⟩
theorem Encoding.cpxAbs (w : Word) : Encoding.Statement (.cpxAbs w) := ⟨rfl, rfl⟩
theorem Encoding.cpyImm (b : Byte) : Encoding.Statement (.cpyImm b) := ⟨rfl, rfl⟩
theorem Encoding.cpyZp (b : Byte) : Encoding.Statement (.cpyZp b) := ⟨rfl, rfl⟩
theorem Encoding.cpyAbs (w : Word) : Encoding.Statement (.cpyAbs w) := ⟨rfl, rfl⟩
theorem Encoding.incZp (b : Byte) : Encoding.Statement (.incZp b) := ⟨rfl, rfl⟩
theorem Encoding.incZpx (b : Byte) : Encoding.Statement (.incZpx b) := ⟨rfl, rfl⟩
theorem Encoding.incAbs (w : Word) : Encoding.Statement (.incAbs w) := ⟨rfl, rfl⟩
theorem Encoding.incAbx (w : Word) : Encoding.Statement (.incAbx w) := ⟨rfl, rfl⟩
theorem Encoding.decZp (b : Byte) : Encoding.Statement (.decZp b) := ⟨rfl, rfl⟩
theorem Encoding.decZpx (b : Byte) : Encoding.Statement (.decZpx b) := ⟨rfl, rfl⟩
theorem Encoding.decAbs (w : Word) : Encoding.Statement (.decAbs w) := ⟨rfl, rfl⟩
theorem Encoding.decAbx (w : Word) : Encoding.Statement (.decAbx w) := ⟨rfl, rfl⟩
theorem Encoding.inx : Encoding.Statement .inx := ⟨rfl, rfl⟩
theorem Encoding.iny : Encoding.Statement .iny := ⟨rfl, rfl⟩
theorem Encoding.dex : Encoding.Statement .dex := ⟨rfl, rfl⟩
theorem Encoding.dey : Encoding.Statement .dey := ⟨rfl, rfl⟩
theorem Encoding.andImm (b : Byte) : Encoding.Statement (.andImm b) := ⟨rfl, rfl⟩
theorem Encoding.andZp (b : Byte) : Encoding.Statement (.andZp b) := ⟨rfl, rfl⟩
theorem Encoding.andZpx (b : Byte) : Encoding.Statement (.andZpx b) := ⟨rfl, rfl⟩
theorem Encoding.andAbs (w : Word) : Encoding.Statement (.andAbs w) := ⟨rfl, rfl⟩
theorem Encoding.andAbx (w : Word) : Encoding.Statement (.andAbx w) := ⟨rfl, rfl⟩
theorem Encoding.andAby (w : Word) : Encoding.Statement (.andAby w) := ⟨rfl, rfl⟩
theorem Encoding.andIzx (b : Byte) : Encoding.Statement (.andIzx b) := ⟨rfl, rfl⟩
theorem Encoding.andIzy (b : Byte) : Encoding.Statement (.andIzy b) := ⟨rfl, rfl⟩
theorem Encoding.oraImm (b : Byte) : Encoding.Statement (.oraImm b) := ⟨rfl, rfl⟩
theorem Encoding.oraZp (b : Byte) : Encoding.Statement (.oraZp b) := ⟨rfl, rfl⟩
theorem Encoding.oraZpx (b : Byte) : Encoding.Statement (.oraZpx b) := ⟨rfl, rfl⟩
theorem Encoding.oraAbs (w : Word) : Encoding.Statement (.oraAbs w) := ⟨rfl, rfl⟩
theorem Encoding.oraAbx (w : Word) : Encoding.Statement (.oraAbx w) := ⟨rfl, rfl⟩
theorem Encoding.oraAby (w : Word) : Encoding.Statement (.oraAby w) := ⟨rfl, rfl⟩
theorem Encoding.oraIzx (b : Byte) : Encoding.Statement (.oraIzx b) := ⟨rfl, rfl⟩
theorem Encoding.oraIzy (b : Byte) : Encoding.Statement (.oraIzy b) := ⟨rfl, rfl⟩
theorem Encoding.eorImm (b : Byte) : Encoding.Statement (.eorImm b) := ⟨rfl, rfl⟩
theorem Encoding.eorZp (b : Byte) : Encoding.Statement (.eorZp b) := ⟨rfl, rfl⟩
theorem Encoding.eorZpx (b : Byte) : Encoding.Statement (.eorZpx b) := ⟨rfl, rfl⟩
theorem Encoding.eorAbs (w : Word) : Encoding.Statement (.eorAbs w) := ⟨rfl, rfl⟩
theorem Encoding.eorAbx (w : Word) : Encoding.Statement (.eorAbx w) := ⟨rfl, rfl⟩
theorem Encoding.eorAby (w : Word) : Encoding.Statement (.eorAby w) := ⟨rfl, rfl⟩
theorem Encoding.eorIzx (b : Byte) : Encoding.Statement (.eorIzx b) := ⟨rfl, rfl⟩
theorem Encoding.eorIzy (b : Byte) : Encoding.Statement (.eorIzy b) := ⟨rfl, rfl⟩
theorem Encoding.bitZp (b : Byte) : Encoding.Statement (.bitZp b) := ⟨rfl, rfl⟩
theorem Encoding.bitAbs (w : Word) : Encoding.Statement (.bitAbs w) := ⟨rfl, rfl⟩
theorem Encoding.aslAcc : Encoding.Statement .aslAcc := ⟨rfl, rfl⟩
theorem Encoding.aslZp (b : Byte) : Encoding.Statement (.aslZp b) := ⟨rfl, rfl⟩
theorem Encoding.aslZpx (b : Byte) : Encoding.Statement (.aslZpx b) := ⟨rfl, rfl⟩
theorem Encoding.aslAbs (w : Word) : Encoding.Statement (.aslAbs w) := ⟨rfl, rfl⟩
theorem Encoding.aslAbx (w : Word) : Encoding.Statement (.aslAbx w) := ⟨rfl, rfl⟩
theorem Encoding.lsrAcc : Encoding.Statement .lsrAcc := ⟨rfl, rfl⟩
theorem Encoding.lsrZp (b : Byte) : Encoding.Statement (.lsrZp b) := ⟨rfl, rfl⟩
theorem Encoding.lsrZpx (b : Byte) : Encoding.Statement (.lsrZpx b) := ⟨rfl, rfl⟩
theorem Encoding.lsrAbs (w : Word) : Encoding.Statement (.lsrAbs w) := ⟨rfl, rfl⟩
theorem Encoding.lsrAbx (w : Word) : Encoding.Statement (.lsrAbx w) := ⟨rfl, rfl⟩
theorem Encoding.rolAcc : Encoding.Statement .rolAcc := ⟨rfl, rfl⟩
theorem Encoding.rolZp (b : Byte) : Encoding.Statement (.rolZp b) := ⟨rfl, rfl⟩
theorem Encoding.rolZpx (b : Byte) : Encoding.Statement (.rolZpx b) := ⟨rfl, rfl⟩
theorem Encoding.rolAbs (w : Word) : Encoding.Statement (.rolAbs w) := ⟨rfl, rfl⟩
theorem Encoding.rolAbx (w : Word) : Encoding.Statement (.rolAbx w) := ⟨rfl, rfl⟩
theorem Encoding.rorAcc : Encoding.Statement .rorAcc := ⟨rfl, rfl⟩
theorem Encoding.rorZp (b : Byte) : Encoding.Statement (.rorZp b) := ⟨rfl, rfl⟩
theorem Encoding.rorZpx (b : Byte) : Encoding.Statement (.rorZpx b) := ⟨rfl, rfl⟩
theorem Encoding.rorAbs (w : Word) : Encoding.Statement (.rorAbs w) := ⟨rfl, rfl⟩
theorem Encoding.rorAbx (w : Word) : Encoding.Statement (.rorAbx w) := ⟨rfl, rfl⟩
theorem Encoding.pha : Encoding.Statement .pha := ⟨rfl, rfl⟩
theorem Encoding.pla : Encoding.Statement .pla := ⟨rfl, rfl⟩
theorem Encoding.php : Encoding.Statement .php := ⟨rfl, rfl⟩
theorem Encoding.plp : Encoding.Statement .plp := ⟨rfl, rfl⟩
theorem Encoding.jmpAbs (w : Word) : Encoding.Statement (.jmpAbs w) := ⟨rfl, rfl⟩
theorem Encoding.jmpInd (w : Word) : Encoding.Statement (.jmpInd w) := ⟨rfl, rfl⟩
theorem Encoding.jsr (w : Word) : Encoding.Statement (.jsr w) := ⟨rfl, rfl⟩
theorem Encoding.rts : Encoding.Statement .rts := ⟨rfl, rfl⟩
theorem Encoding.bcc (b : Byte) : Encoding.Statement (.bcc b) := ⟨rfl, rfl⟩
theorem Encoding.bcs (b : Byte) : Encoding.Statement (.bcs b) := ⟨rfl, rfl⟩
theorem Encoding.beq (b : Byte) : Encoding.Statement (.beq b) := ⟨rfl, rfl⟩
theorem Encoding.bne (b : Byte) : Encoding.Statement (.bne b) := ⟨rfl, rfl⟩
theorem Encoding.bmi (b : Byte) : Encoding.Statement (.bmi b) := ⟨rfl, rfl⟩
theorem Encoding.bpl (b : Byte) : Encoding.Statement (.bpl b) := ⟨rfl, rfl⟩
theorem Encoding.bvc (b : Byte) : Encoding.Statement (.bvc b) := ⟨rfl, rfl⟩
theorem Encoding.bvs (b : Byte) : Encoding.Statement (.bvs b) := ⟨rfl, rfl⟩
theorem Encoding.clc : Encoding.Statement .clc := ⟨rfl, rfl⟩
theorem Encoding.sec : Encoding.Statement .sec := ⟨rfl, rfl⟩
theorem Encoding.cld : Encoding.Statement .cld := ⟨rfl, rfl⟩
theorem Encoding.sed : Encoding.Statement .sed := ⟨rfl, rfl⟩
theorem Encoding.cli : Encoding.Statement .cli := ⟨rfl, rfl⟩
theorem Encoding.sei : Encoding.Statement .sei := ⟨rfl, rfl⟩
theorem Encoding.clv : Encoding.Statement .clv := ⟨rfl, rfl⟩
theorem Encoding.nop : Encoding.Statement .nop := ⟨rfl, rfl⟩
theorem Encoding.brk : Encoding.Statement .brk := ⟨rfl, rfl⟩
theorem Encoding.rti : Encoding.Statement .rti := ⟨rfl, rfl⟩

end Sys2Proof.Laws
end

