-- ==== Sys2Proof/Machine/AddressMap.lean ====
section
/-! DEFINITION. The address map: pages (20_memory.md R30), what the processor fixes (R37, R40) and, for the
record, the platform examples of R38 and R41, which a model's `Platform` parameter may use and no rule reads. -/

namespace Sys2Proof.Machine

/-- The page of an address (R30). -/
def pageOf (a : Word) : Byte := hi8 a

/-- The offset of an address in its page (R30). -/
def offsetOf (a : Word) : Byte := lo8 a

/-- The rows of R37's table. -/
inductive AddressRole where
  /-- $0000-$00FF -/
  | pageZero
  /-- $0100-$01FF -/
  | stack
  /-- $0200-$FFEF: RAM, ROM or devices, as the system has it -/
  | free
  /-- $FFF0-$FFF9: generally ROM -/
  | systemRom
  /-- $FFFA-$FFFB -/
  | nmiVector
  /-- $FFFC-$FFFD -/
  | resetVector
  /-- $FFFE-$FFFF -/
  | irqVector
  deriving DecidableEq, Repr

/-- The row of R37's table an address is in (C10: the address column counts). -/
def roleOf (a : Word) : AddressRole :=
  if a ≤ 0x00FF then .pageZero
  else if a ≤ 0x01FF then .stack
  else if a ≤ 0xFFEF then .free
  else if a ≤ 0xFFF9 then .systemRom
  else if a ≤ 0xFFFB then .nmiVector
  else if a ≤ 0xFFFD then .resetVector
  else .irqVector

/-- The first table of R41 (VIC-II, SID, colour memory, CIA 1, CIA 2); the heading is lost, the spec names
the Commodore 64 from general knowledge. -/
def platformCommodore64 : Platform :=
  [⟨0xD000, 0xD3FF, .deviceRegister⟩, ⟨0xD400, 0xD7FF, .deviceRegister⟩, ⟨0xD800, 0xDBFF, .deviceMemory⟩,
   ⟨0xDC00, 0xDCFF, .deviceRegister⟩, ⟨0xDD00, 0xDDFF, .deviceRegister⟩]

/-- The second table of R41: internal peripherals and expansion-card ROM. -/
def platformApple2 : Platform := [⟨0xC000, 0xC0FF, .deviceRegister⟩, ⟨0xC100, 0xC7FF, .rom⟩]

/-- The third table of R41 (PPU, APU and input/output); heading lost, named from general knowledge. -/
def platformNes : Platform := [⟨0x2000, 0x2007, .deviceRegister⟩, ⟨0x4000, 0x4017, .deviceRegister⟩]

/-- The fourth table of R41 (TIA, RIOT); heading lost, named from general knowledge. -/
def platformAtari2600 : Platform := [⟨0x0000, 0x007F, .deviceRegister⟩, ⟨0x0280, 0x0297, .deviceRegister⟩]

/-- The page-zero areas that R38 lists as reserved by system software: nothing enforces them (U18). -/
def pageZeroReservations : List (String × Word × Word) :=
  [("Apple II: monitor and Applesoft", 0x0000, 0x004F), ("Commodore 64: 6510 port", 0x0000, 0x0001),
   ("Commodore 64: BASIC and Kernal", 0x0002, 0x008F), ("Atari 800", 0x0000, 0x007F)]

end Sys2Proof.Machine
end

