-- ==== Sys2Proof/Machine/Timing.lean ====
section
/-! DEFINITION. The cycle counts of 70_reset_and_hazards.md R210 and R211. No rule depends on them and State
holds no cycle counter (60_exceptions.md R185). All but "3 cycles au lieu de 4", the page-crossing cycle and
the clock rates the spec marks as general knowledge (UNVERIFIED, log entry 20). -/

namespace Sys2Proof.Machine

/-- The speed grades of R1, which differ in nothing else. -/
inductive SpeedGrade where
  | mos6502 | mos6502A | mos6502B
  deriving DecidableEq, Repr

/-- The clock in hertz (R1, `ClockHz` of R4). -/
def SpeedGrade.clockHz : SpeedGrade → Nat
  | .mos6502 => 1000000
  | .mos6502A => 2000000
  | .mos6502B => 3000000

/-- The indexed address lies in another page than its base (R67, R71). -/
def pageCrossed (r : MemRef) (s : State) : Bool :=
  match r with
  | .abx w | .aby w => hi8 (effectiveAddr r s) != hi8 w
  | .izy b => hi8 (effectiveAddr r s) != hi8 (s.read16Zp b)
  | .zp _ | .zpx _ | .zpy _ | .abs _ | .izx _ => false

/-- `+p` of R210. -/
def crossingCycle (r : MemRef) (s : State) : Nat := bitValue (pageCrossed r s)

/-- An instruction that reads its operand. -/
def readCycles (r : MemRef) (s : State) : Nat :=
  match r with
  | .zp _ => 3
  | .zpx _ | .zpy _ | .abs _ => 4
  | .abx _ | .aby _ => 4 + crossingCycle r s
  | .izx _ => 6
  | .izy _ => 5 + crossingCycle r s

/-- An instruction that stores: the crossing never shows. -/
def storeCycles : MemRef → Nat
  | .zp _ => 3
  | .zpx _ | .zpy _ | .abs _ => 4
  | .abx _ | .aby _ => 5
  | .izx _ | .izy _ => 6

/-- A conditional branch. -/
def branchCycles (m : Mnemonic) (disp : Byte) (s : State) : Nat :=
  let next := s.pc + 2
  if branchCondition m s.p then
    if hi8 (branchTarget next disp) = hi8 next then 3 else 4
  else 2

/-- An instruction with no operand. -/
def impliedCycles : Mnemonic → Nat
  | .pha | .php => 3
  | .pla | .plp => 4
  | .rts | .rti => 6
  | .brk => 7
  | _ => 2

/-- The cycles of an instruction at a state whose `pc` is its address (the table of R210). -/
def cycles (i : Instr) (s : State) : Nat :=
  match i.operand with
  | .imm _ | .acc => 2
  | .rel b => branchCycles i.mnemonic b s
  | .imp => impliedCycles i.mnemonic
  | .ind _ => 5
  | .mem r =>
    match memUse i.mnemonic with
    | .reads => readCycles r s
    | .stores => storeCycles r
    | .modifies => storeCycles r + 2
    | .targets => if i.mnemonic = .jsr then 6 else 3
    | .never => 2

/-- NMI and IRQ entry, and the RESET sequence (R210). -/
def entryCycles : Nat := 7

/-- The longest wait from a request to the end of the entry, with the request not masked (R211). -/
def worstLatency : Nat := 7 + entryCycles

end Sys2Proof.Machine
end

