-- ==== Sys2Proof/Tests/Slice0.lean ====
section
/-! SUPPORT. Tests: the refused forms, every opcode's decoding, one step of each instruction with the expected values
of 95_test_vectors.md or of the instruction's own rule, and for each statement with hypotheses a concrete case that
meets them. -/

open Sys2Proof Sys2Proof.Machine Sys2Proof.Claims

namespace Sys2Proof.Tests

/-! ### Forms that do not exist (R75: "an assembler error") -/

theorem test_form_refused_sta_immediate : formExists .sta .imm = false := by decide
theorem test_form_refused_ldx_zero_page_x : formExists .ldx .zpx = false := by decide
theorem test_form_refused_stx_absolute_y : formExists .stx .aby = false := by decide
theorem test_form_refused_bit_immediate : formExists .bit .imm = false := by decide
theorem test_form_refused_inc_accumulator : formExists .inc .acc = false := by decide
theorem test_form_refused_jsr_indirect : formExists .jsr .ind = false := by decide
theorem test_form_accepted : (Instr.ldaIzy 0x80).wellFormed = true ∧ (Instr.jmpInd 0x3000).wellFormed = true := by decide

/-! ### Decoding: the Encoding line of every instruction rule -/

theorem test_decode_lda :
    decode [0xA9, 0x34, 0xEE] = .ok (.ldaImm 0x34, [0xEE]) ∧ decode [0xA5, 0x34, 0xEE] = .ok (.ldaZp 0x34, [0xEE]) ∧
    decode [0xB5, 0x34, 0xEE] = .ok (.ldaZpx 0x34, [0xEE]) ∧ decode [0xAD, 0x34, 0x12] = .ok (.ldaAbs 0x1234, []) ∧
    decode [0xBD, 0x34, 0x12] = .ok (.ldaAbx 0x1234, []) ∧ decode [0xB9, 0x34, 0x12] = .ok (.ldaAby 0x1234, []) ∧
    decode [0xA1, 0x34, 0xEE] = .ok (.ldaIzx 0x34, [0xEE]) ∧ decode [0xB1, 0x34, 0xEE] = .ok (.ldaIzy 0x34, [0xEE]) :=
  ⟨rfl, rfl, rfl, rfl, rfl, rfl, rfl, rfl⟩
theorem test_decode_ldx :
    decode [0xA2, 0x34, 0xEE] = .ok (.ldxImm 0x34, [0xEE]) ∧ decode [0xA6, 0x34, 0xEE] = .ok (.ldxZp 0x34, [0xEE]) ∧
    decode [0xB6, 0x34, 0xEE] = .ok (.ldxZpy 0x34, [0xEE]) ∧ decode [0xAE, 0x34, 0x12] = .ok (.ldxAbs 0x1234, []) ∧
    decode [0xBE, 0x34, 0x12] = .ok (.ldxAby 0x1234, []) :=
  ⟨rfl, rfl, rfl, rfl, rfl⟩
theorem test_decode_ldy :
    decode [0xA0, 0x34, 0xEE] = .ok (.ldyImm 0x34, [0xEE]) ∧ decode [0xA4, 0x34, 0xEE] = .ok (.ldyZp 0x34, [0xEE]) ∧
    decode [0xB4, 0x34, 0xEE] = .ok (.ldyZpx 0x34, [0xEE]) ∧ decode [0xAC, 0x34, 0x12] = .ok (.ldyAbs 0x1234, []) ∧
    decode [0xBC, 0x34, 0x12] = .ok (.ldyAbx 0x1234, []) :=
  ⟨rfl, rfl, rfl, rfl, rfl⟩
theorem test_decode_sta :
    decode [0x85, 0x34, 0xEE] = .ok (.staZp 0x34, [0xEE]) ∧ decode [0x95, 0x34, 0xEE] = .ok (.staZpx 0x34, [0xEE]) ∧
    decode [0x8D, 0x34, 0x12] = .ok (.staAbs 0x1234, []) ∧ decode [0x9D, 0x34, 0x12] = .ok (.staAbx 0x1234, []) ∧
    decode [0x99, 0x34, 0x12] = .ok (.staAby 0x1234, []) ∧ decode [0x81, 0x34, 0xEE] = .ok (.staIzx 0x34, [0xEE]) ∧
    decode [0x91, 0x34, 0xEE] = .ok (.staIzy 0x34, [0xEE]) :=
  ⟨rfl, rfl, rfl, rfl, rfl, rfl, rfl⟩
theorem test_decode_stx :
    decode [0x86, 0x34, 0xEE] = .ok (.stxZp 0x34, [0xEE]) ∧ decode [0x96, 0x34, 0xEE] = .ok (.stxZpy 0x34, [0xEE]) ∧
    decode [0x8E, 0x34, 0x12] = .ok (.stxAbs 0x1234, []) :=
  ⟨rfl, rfl, rfl⟩
theorem test_decode_sty :
    decode [0x84, 0x34, 0xEE] = .ok (.styZp 0x34, [0xEE]) ∧ decode [0x94, 0x34, 0xEE] = .ok (.styZpx 0x34, [0xEE]) ∧
    decode [0x8C, 0x34, 0x12] = .ok (.styAbs 0x1234, []) :=
  ⟨rfl, rfl, rfl⟩
theorem test_decode_tax : decode [0xAA, 0xEE] = .ok (.tax, [0xEE]) := rfl
theorem test_decode_tay : decode [0xA8, 0xEE] = .ok (.tay, [0xEE]) := rfl
theorem test_decode_txa : decode [0x8A, 0xEE] = .ok (.txa, [0xEE]) := rfl
theorem test_decode_tya : decode [0x98, 0xEE] = .ok (.tya, [0xEE]) := rfl
theorem test_decode_tsx : decode [0xBA, 0xEE] = .ok (.tsx, [0xEE]) := rfl
theorem test_decode_txs : decode [0x9A, 0xEE] = .ok (.txs, [0xEE]) := rfl
theorem test_decode_adc :
    decode [0x69, 0x34, 0xEE] = .ok (.adcImm 0x34, [0xEE]) ∧ decode [0x65, 0x34, 0xEE] = .ok (.adcZp 0x34, [0xEE]) ∧
    decode [0x75, 0x34, 0xEE] = .ok (.adcZpx 0x34, [0xEE]) ∧ decode [0x6D, 0x34, 0x12] = .ok (.adcAbs 0x1234, []) ∧
    decode [0x7D, 0x34, 0x12] = .ok (.adcAbx 0x1234, []) ∧ decode [0x79, 0x34, 0x12] = .ok (.adcAby 0x1234, []) ∧
    decode [0x61, 0x34, 0xEE] = .ok (.adcIzx 0x34, [0xEE]) ∧ decode [0x71, 0x34, 0xEE] = .ok (.adcIzy 0x34, [0xEE]) :=
  ⟨rfl, rfl, rfl, rfl, rfl, rfl, rfl, rfl⟩
theorem test_decode_sbc :
    decode [0xE9, 0x34, 0xEE] = .ok (.sbcImm 0x34, [0xEE]) ∧ decode [0xE5, 0x34, 0xEE] = .ok (.sbcZp 0x34, [0xEE]) ∧
    decode [0xF5, 0x34, 0xEE] = .ok (.sbcZpx 0x34, [0xEE]) ∧ decode [0xED, 0x34, 0x12] = .ok (.sbcAbs 0x1234, []) ∧
    decode [0xFD, 0x34, 0x12] = .ok (.sbcAbx 0x1234, []) ∧ decode [0xF9, 0x34, 0x12] = .ok (.sbcAby 0x1234, []) ∧
    decode [0xE1, 0x34, 0xEE] = .ok (.sbcIzx 0x34, [0xEE]) ∧ decode [0xF1, 0x34, 0xEE] = .ok (.sbcIzy 0x34, [0xEE]) :=
  ⟨rfl, rfl, rfl, rfl, rfl, rfl, rfl, rfl⟩
theorem test_decode_cmp :
    decode [0xC9, 0x34, 0xEE] = .ok (.cmpImm 0x34, [0xEE]) ∧ decode [0xC5, 0x34, 0xEE] = .ok (.cmpZp 0x34, [0xEE]) ∧
    decode [0xD5, 0x34, 0xEE] = .ok (.cmpZpx 0x34, [0xEE]) ∧ decode [0xCD, 0x34, 0x12] = .ok (.cmpAbs 0x1234, []) ∧
    decode [0xDD, 0x34, 0x12] = .ok (.cmpAbx 0x1234, []) ∧ decode [0xD9, 0x34, 0x12] = .ok (.cmpAby 0x1234, []) ∧
    decode [0xC1, 0x34, 0xEE] = .ok (.cmpIzx 0x34, [0xEE]) ∧ decode [0xD1, 0x34, 0xEE] = .ok (.cmpIzy 0x34, [0xEE]) :=
  ⟨rfl, rfl, rfl, rfl, rfl, rfl, rfl, rfl⟩
theorem test_decode_cpx :
    decode [0xE0, 0x34, 0xEE] = .ok (.cpxImm 0x34, [0xEE]) ∧ decode [0xE4, 0x34, 0xEE] = .ok (.cpxZp 0x34, [0xEE]) ∧
    decode [0xEC, 0x34, 0x12] = .ok (.cpxAbs 0x1234, []) :=
  ⟨rfl, rfl, rfl⟩
theorem test_decode_cpy :
    decode [0xC0, 0x34, 0xEE] = .ok (.cpyImm 0x34, [0xEE]) ∧ decode [0xC4, 0x34, 0xEE] = .ok (.cpyZp 0x34, [0xEE]) ∧
    decode [0xCC, 0x34, 0x12] = .ok (.cpyAbs 0x1234, []) :=
  ⟨rfl, rfl, rfl⟩
theorem test_decode_inc :
    decode [0xE6, 0x34, 0xEE] = .ok (.incZp 0x34, [0xEE]) ∧ decode [0xF6, 0x34, 0xEE] = .ok (.incZpx 0x34, [0xEE]) ∧
    decode [0xEE, 0x34, 0x12] = .ok (.incAbs 0x1234, []) ∧ decode [0xFE, 0x34, 0x12] = .ok (.incAbx 0x1234, []) :=
  ⟨rfl, rfl, rfl, rfl⟩
theorem test_decode_dec :
    decode [0xC6, 0x34, 0xEE] = .ok (.decZp 0x34, [0xEE]) ∧ decode [0xD6, 0x34, 0xEE] = .ok (.decZpx 0x34, [0xEE]) ∧
    decode [0xCE, 0x34, 0x12] = .ok (.decAbs 0x1234, []) ∧ decode [0xDE, 0x34, 0x12] = .ok (.decAbx 0x1234, []) :=
  ⟨rfl, rfl, rfl, rfl⟩
theorem test_decode_inx : decode [0xE8, 0xEE] = .ok (.inx, [0xEE]) := rfl
theorem test_decode_iny : decode [0xC8, 0xEE] = .ok (.iny, [0xEE]) := rfl
theorem test_decode_dex : decode [0xCA, 0xEE] = .ok (.dex, [0xEE]) := rfl
theorem test_decode_dey : decode [0x88, 0xEE] = .ok (.dey, [0xEE]) := rfl
theorem test_decode_and :
    decode [0x29, 0x34, 0xEE] = .ok (.andImm 0x34, [0xEE]) ∧ decode [0x25, 0x34, 0xEE] = .ok (.andZp 0x34, [0xEE]) ∧
    decode [0x35, 0x34, 0xEE] = .ok (.andZpx 0x34, [0xEE]) ∧ decode [0x2D, 0x34, 0x12] = .ok (.andAbs 0x1234, []) ∧
    decode [0x3D, 0x34, 0x12] = .ok (.andAbx 0x1234, []) ∧ decode [0x39, 0x34, 0x12] = .ok (.andAby 0x1234, []) ∧
    decode [0x21, 0x34, 0xEE] = .ok (.andIzx 0x34, [0xEE]) ∧ decode [0x31, 0x34, 0xEE] = .ok (.andIzy 0x34, [0xEE]) :=
  ⟨rfl, rfl, rfl, rfl, rfl, rfl, rfl, rfl⟩
theorem test_decode_ora :
    decode [0x09, 0x34, 0xEE] = .ok (.oraImm 0x34, [0xEE]) ∧ decode [0x05, 0x34, 0xEE] = .ok (.oraZp 0x34, [0xEE]) ∧
    decode [0x15, 0x34, 0xEE] = .ok (.oraZpx 0x34, [0xEE]) ∧ decode [0x0D, 0x34, 0x12] = .ok (.oraAbs 0x1234, []) ∧
    decode [0x1D, 0x34, 0x12] = .ok (.oraAbx 0x1234, []) ∧ decode [0x19, 0x34, 0x12] = .ok (.oraAby 0x1234, []) ∧
    decode [0x01, 0x34, 0xEE] = .ok (.oraIzx 0x34, [0xEE]) ∧ decode [0x11, 0x34, 0xEE] = .ok (.oraIzy 0x34, [0xEE]) :=
  ⟨rfl, rfl, rfl, rfl, rfl, rfl, rfl, rfl⟩
theorem test_decode_eor :
    decode [0x49, 0x34, 0xEE] = .ok (.eorImm 0x34, [0xEE]) ∧ decode [0x45, 0x34, 0xEE] = .ok (.eorZp 0x34, [0xEE]) ∧
    decode [0x55, 0x34, 0xEE] = .ok (.eorZpx 0x34, [0xEE]) ∧ decode [0x4D, 0x34, 0x12] = .ok (.eorAbs 0x1234, []) ∧
    decode [0x5D, 0x34, 0x12] = .ok (.eorAbx 0x1234, []) ∧ decode [0x59, 0x34, 0x12] = .ok (.eorAby 0x1234, []) ∧
    decode [0x41, 0x34, 0xEE] = .ok (.eorIzx 0x34, [0xEE]) ∧ decode [0x51, 0x34, 0xEE] = .ok (.eorIzy 0x34, [0xEE]) :=
  ⟨rfl, rfl, rfl, rfl, rfl, rfl, rfl, rfl⟩
theorem test_decode_bit :
    decode [0x24, 0x34, 0xEE] = .ok (.bitZp 0x34, [0xEE]) ∧ decode [0x2C, 0x34, 0x12] = .ok (.bitAbs 0x1234, []) :=
  ⟨rfl, rfl⟩
theorem test_decode_asl :
    decode [0x0A, 0xEE] = .ok (.aslAcc, [0xEE]) ∧ decode [0x06, 0x34, 0xEE] = .ok (.aslZp 0x34, [0xEE]) ∧
    decode [0x16, 0x34, 0xEE] = .ok (.aslZpx 0x34, [0xEE]) ∧ decode [0x0E, 0x34, 0x12] = .ok (.aslAbs 0x1234, []) ∧
    decode [0x1E, 0x34, 0x12] = .ok (.aslAbx 0x1234, []) :=
  ⟨rfl, rfl, rfl, rfl, rfl⟩
theorem test_decode_lsr :
    decode [0x4A, 0xEE] = .ok (.lsrAcc, [0xEE]) ∧ decode [0x46, 0x34, 0xEE] = .ok (.lsrZp 0x34, [0xEE]) ∧
    decode [0x56, 0x34, 0xEE] = .ok (.lsrZpx 0x34, [0xEE]) ∧ decode [0x4E, 0x34, 0x12] = .ok (.lsrAbs 0x1234, []) ∧
    decode [0x5E, 0x34, 0x12] = .ok (.lsrAbx 0x1234, []) :=
  ⟨rfl, rfl, rfl, rfl, rfl⟩
theorem test_decode_rol :
    decode [0x2A, 0xEE] = .ok (.rolAcc, [0xEE]) ∧ decode [0x26, 0x34, 0xEE] = .ok (.rolZp 0x34, [0xEE]) ∧
    decode [0x36, 0x34, 0xEE] = .ok (.rolZpx 0x34, [0xEE]) ∧ decode [0x2E, 0x34, 0x12] = .ok (.rolAbs 0x1234, []) ∧
    decode [0x3E, 0x34, 0x12] = .ok (.rolAbx 0x1234, []) :=
  ⟨rfl, rfl, rfl, rfl, rfl⟩
theorem test_decode_ror :
    decode [0x6A, 0xEE] = .ok (.rorAcc, [0xEE]) ∧ decode [0x66, 0x34, 0xEE] = .ok (.rorZp 0x34, [0xEE]) ∧
    decode [0x76, 0x34, 0xEE] = .ok (.rorZpx 0x34, [0xEE]) ∧ decode [0x6E, 0x34, 0x12] = .ok (.rorAbs 0x1234, []) ∧
    decode [0x7E, 0x34, 0x12] = .ok (.rorAbx 0x1234, []) :=
  ⟨rfl, rfl, rfl, rfl, rfl⟩
theorem test_decode_pha : decode [0x48, 0xEE] = .ok (.pha, [0xEE]) := rfl
theorem test_decode_pla : decode [0x68, 0xEE] = .ok (.pla, [0xEE]) := rfl
theorem test_decode_php : decode [0x08, 0xEE] = .ok (.php, [0xEE]) := rfl
theorem test_decode_plp : decode [0x28, 0xEE] = .ok (.plp, [0xEE]) := rfl
theorem test_decode_jmp :
    decode [0x4C, 0x34, 0x12] = .ok (.jmpAbs 0x1234, []) ∧ decode [0x6C, 0x34, 0x12] = .ok (.jmpInd 0x1234, []) :=
  ⟨rfl, rfl⟩
theorem test_decode_jsr : decode [0x20, 0x34, 0x12] = .ok (.jsr 0x1234, []) := rfl
theorem test_decode_rts : decode [0x60, 0xEE] = .ok (.rts, [0xEE]) := rfl
theorem test_decode_bcc : decode [0x90, 0x34, 0xEE] = .ok (.bcc 0x34, [0xEE]) := rfl
theorem test_decode_bcs : decode [0xB0, 0x34, 0xEE] = .ok (.bcs 0x34, [0xEE]) := rfl
theorem test_decode_beq : decode [0xF0, 0x34, 0xEE] = .ok (.beq 0x34, [0xEE]) := rfl
theorem test_decode_bne : decode [0xD0, 0x34, 0xEE] = .ok (.bne 0x34, [0xEE]) := rfl
theorem test_decode_bmi : decode [0x30, 0x34, 0xEE] = .ok (.bmi 0x34, [0xEE]) := rfl
theorem test_decode_bpl : decode [0x10, 0x34, 0xEE] = .ok (.bpl 0x34, [0xEE]) := rfl
theorem test_decode_bvc : decode [0x50, 0x34, 0xEE] = .ok (.bvc 0x34, [0xEE]) := rfl
theorem test_decode_bvs : decode [0x70, 0x34, 0xEE] = .ok (.bvs 0x34, [0xEE]) := rfl
theorem test_decode_clc : decode [0x18, 0xEE] = .ok (.clc, [0xEE]) := rfl
theorem test_decode_sec : decode [0x38, 0xEE] = .ok (.sec, [0xEE]) := rfl
theorem test_decode_cld : decode [0xD8, 0xEE] = .ok (.cld, [0xEE]) := rfl
theorem test_decode_sed : decode [0xF8, 0xEE] = .ok (.sed, [0xEE]) := rfl
theorem test_decode_cli : decode [0x58, 0xEE] = .ok (.cli, [0xEE]) := rfl
theorem test_decode_sei : decode [0x78, 0xEE] = .ok (.sei, [0xEE]) := rfl
theorem test_decode_clv : decode [0xB8, 0xEE] = .ok (.clv, [0xEE]) := rfl
theorem test_decode_nop : decode [0xEA, 0xEE] = .ok (.nop, [0xEE]) := rfl
theorem test_decode_brk : decode [0x00, 0xEE] = .ok (.brk, [0xEE]) := rfl
theorem test_decode_rti : decode [0x40, 0xEE] = .ok (.rti, [0xEE]) := rfl
theorem test_decode_truncated : decode [0xAD, 0x34] = .error (.truncated 0xAD) ∧ decode [] = .error .empty := ⟨rfl, rfl⟩
theorem test_table_word_operands : decodeTableWord 24 0x1234AD = some (.ldaAbs 0x1234) ∧ decodeTableWord 8 0xAD = some (.ldaAbs 0) :=
  ⟨rfl, rfl⟩

/-! ### One step -/

/-- The start of the vectors of 95_test_vectors.md, part 2: `pc` $2000, SP $FF, the rest 0. -/
def start : State := { State.reset with pc := 0x2000, sp := 0xFF, p := Flags.ofByte 0x00 }

/-- Bytes in memory from an address on. -/
def put (s : State) (addr : Nat) : List Byte → State
  | [] => s
  | b :: rest => put { s with mem := s.mem.write addr b } (addr + 1) rest

/-- The bytes are put at `pc` and one step is taken; the test says what the next state holds. -/
def ran (s : State) (bytes : List Byte) (ok : State → Bool) : Bool :=
  match step (put s s.pc.toNat bytes) with
  | .next t => ok t
  | .fault _ | .refused _ => false

/-- V-L2, with C and V held -/
theorem test_lda_immediate :
    ran { start with p := Flags.ofByte 0x41 } [0xA9, 0x80]
      (fun t => t.a == 0x80 && t.p == Flags.ofByte 0xC1 && t.pc == 0x2002) = true := by decide
/-- V-L1 -/
theorem test_lda_zero :
    ran { start with p := Flags.ofByte 0x80 } [0xA9, 0x00]
      (fun t => t.a == 0x00 && t.p == Flags.ofByte 0x02) = true := by decide
/-- V-M1 -/
theorem test_lda_zero_page_x_wraps :
    ran { start with x := 0xFF, mem := [(0x7F, 0x11), (0x17F, 0x22)] } [0xB5, 0x80]
      (fun t => t.a == 0x11) = true := by decide
/-- V-M5 -/
theorem test_lda_absolute_y_wraps :
    ran { start with y := 0x20, mem := [(0x10, 0x66)] } [0xB9, 0xF0, 0xFF]
      (fun t => t.a == 0x66 && t.pc == 0x2003) = true := by decide
/-- V-M4 -/
theorem test_lda_absolute_x_crosses_page :
    ran { start with x := 0x20, mem := [(0x1310, 0x55)] } [0xBD, 0xF0, 0x12]
      (fun t => t.a == 0x55) = true := by decide
/-- V-M6 -/
theorem test_lda_indexed_indirect_wraps :
    ran { start with x := 0x0F, mem := [(0x00, 0x12), (0xFF, 0x34), (0x100, 0x99), (0x1234, 0x77), (0x9934, 0x88)] } [0xA1, 0xF0]
      (fun t => t.a == 0x77) = true := by decide
/-- V-M8 -/
theorem test_lda_indirect_indexed_wraps :
    ran { start with y := 0x01, mem := [(0x00, 0x20), (0xFF, 0xFF), (0x100, 0x99), (0x2100, 0x42), (0x9A00, 0x13)] } [0xB1, 0xFF]
      (fun t => t.a == 0x42) = true := by decide
/-- V-M18 -/
theorem test_lda_at_top_of_memory :
    ran { start with pc := 0xFFFF, mem := [(0x00, 0x42)] } [0xA9]
      (fun t => t.a == 0x42 && t.pc == 0x0001) = true := by decide
/-- V-M2 -/
theorem test_ldx_zero_page_y_wraps :
    ran { start with y := 0x90, mem := [(0x10, 0x33), (0x110, 0x44)] } [0xB6, 0x80]
      (fun t => t.x == 0x33) = true := by decide
/-- V-L6 -/
theorem test_ldx_absolute_y :
    ran { start with y := 0x10, x := 0x77 } [0xBE, 0x34, 0x12]
      (fun t => t.x == 0x00 && t.p == Flags.ofByte 0x02) = true := by decide
/-- V-L4 -/
theorem test_ldy_zero_page :
    ran { start with mem := [(0x10, 0xFF)] } [0xA4, 0x10]
      (fun t => t.y == 0xFF && t.p == Flags.ofByte 0x80) = true := by decide
/-- V-L5 -/
theorem test_ldy_zero_page_x :
    ran { start with x := 0x05, mem := [(0x15, 0x01)] } [0xB4, 0x10]
      (fun t => t.y == 0x01 && t.p == Flags.ofByte 0x00) = true := by decide
/-- V-L11 -/
theorem test_sta_absolute_y :
    ran { start with a := 0xBB, y := 0x20, p := Flags.ofByte 0x02 } [0x99, 0xF0, 0x02]
      (fun t => t.mem.read 0x310 == 0xBB && t.p == Flags.ofByte 0x02 && t.a == 0xBB) = true := by decide
/-- V-M10 -/
theorem test_sta_indirect_indexed :
    ran { start with a := 0xAB, y := 0x10, mem := [(0x21, 0x03)] } [0x91, 0x20]
      (fun t => t.mem.read 0x310 == 0xAB) = true := by decide
/-- V-M13 -/
theorem test_stx_zero_page_y_wraps :
    ran { start with x := 0xA5, y := 0x20 } [0x96, 0xF0]
      (fun t => t.mem.read 0x10 == 0xA5 && t.mem.read 0x110 == 0x00) = true := by decide
/-- V-M12 -/
theorem test_sty_zero_page_x_wraps :
    ran { start with x := 0xF8, y := 0x5A } [0x94, 0x10]
      (fun t => t.mem.read 0x08 == 0x5A) = true := by decide
/-- V-L12 -/
theorem test_tax :
    ran { start with a := 0x80 } [0xAA]
      (fun t => t.x == 0x80 && t.a == 0x80 && t.p == Flags.ofByte 0x80 && t.pc == 0x2001) = true := by decide
/-- V-L13 -/
theorem test_tay :
    ran { start with y := 0x55, p := Flags.ofByte 0x80 } [0xA8]
      (fun t => t.y == 0x00 && t.p == Flags.ofByte 0x02) = true := by decide
/-- V-L14 -/
theorem test_txa :
    ran { start with x := 0x7F, a := 0xFF } [0x8A]
      (fun t => t.a == 0x7F && t.p == Flags.ofByte 0x00) = true := by decide
/-- V-L15 -/
theorem test_tya :
    ran { start with y := 0xFF } [0x98]
      (fun t => t.a == 0xFF && t.p == Flags.ofByte 0x80) = true := by decide
/-- V-L16 -/
theorem test_tsx :
    ran { start with sp := 0xFD } [0xBA]
      (fun t => t.x == 0xFD && t.sp == 0xFD && t.p == Flags.ofByte 0x80) = true := by decide
/-- V-L18 -/
theorem test_txs_changes_no_flag :
    ran { start with p := Flags.ofByte 0x80 } [0x9A]
      (fun t => t.sp == 0x00 && t.p == Flags.ofByte 0x80) = true := by decide
/-- V-A7 -/
theorem test_adc_binary :
    ran { start with a := 0x80 } [0x69, 0x80]
      (fun t => t.a == 0x00 && t.p == Flags.ofByte 0x43) = true := by decide
/-- V-D4 -/
theorem test_adc_decimal :
    ran { start with a := 0x58, p := Flags.ofByte 0x09 } [0x69, 0x46]
      (fun t => t.a == 0x05 && t.p.c && t.p.d) = true := by decide
/-- V-A11 -/
theorem test_adc_carry_in_overflows :
    ran { start with a := 0x7F, p := Flags.ofByte 0x01 } [0x65, 0x10]
      (fun t => t.a == 0x80 && t.p == Flags.ofByte 0xC0) = true := by decide
/-- V-D17 -/
theorem test_adc_without_decimal_mode :
    ran { start with a := 0x09, params := { Params.nmos with decimalEnabled := false }, p := Flags.ofByte 0x08 } [0x69, 0x01]
      (fun t => t.a == 0x0A && t.p == Flags.ofByte 0x08) = true := by decide
/-- V-A20 -/
theorem test_sbc_binary :
    ran { start with a := 0x7F, p := Flags.ofByte 0x01 } [0xE9, 0xFF]
      (fun t => t.a == 0x80 && t.p == Flags.ofByte 0xC0) = true := by decide
/-- V-D14 -/
theorem test_sbc_decimal :
    ran { start with a := 0x21, p := Flags.ofByte 0x09 } [0xE9, 0x34]
      (fun t => t.a == 0x87 && !t.p.c && t.p.d) = true := by decide
/-- V-C2 -/
theorem test_cmp :
    ran { start with a := 0x42, p := Flags.ofByte 0x40 } [0xC9, 0x80]
      (fun t => t.a == 0x42 && t.p == Flags.ofByte 0xC0) = true := by decide
/-- V-C4 -/
theorem test_cpx :
    ran { start with x := 0x00, p := Flags.ofByte 0x01 } [0xE0, 0xFF]
      (fun t => t.p == Flags.ofByte 0x00) = true := by decide
/-- V-C10 -/
theorem test_cpy :
    ran { start with y := 0x00 } [0xC0, 0x00]
      (fun t => t.p == Flags.ofByte 0x03) = true := by decide
/-- V-M16 -/
theorem test_inc_zero_page_x_wraps :
    ran { start with x := 0x01, mem := [(0x00, 0x7F)] } [0xF6, 0xFF]
      (fun t => t.mem.read 0 == 0x80 && t.p == Flags.ofByte 0x80) = true := by decide
/-- V-I9 -/
theorem test_inc_wraps_and_keeps_carry :
    ran { start with a := 0x11, mem := [(0x10, 0xFF)], p := Flags.ofByte 0x41 } [0xE6, 0x10]
      (fun t => t.mem.read 0x10 == 0x00 && t.a == 0x11 && t.p == Flags.ofByte 0x43) = true := by decide
/-- V-I13 -/
theorem test_dec_absolute_x :
    ran { start with x := 0x05, mem := [(0x205, 0x80)] } [0xDE, 0x00, 0x02]
      (fun t => t.mem.read 0x205 == 0x7F && t.p == Flags.ofByte 0x00) = true := by decide
/-- V-I12 -/
theorem test_dec_wraps :
    ran start [0xC6, 0x12]
      (fun t => t.mem.read 0x12 == 0xFF && t.p == Flags.ofByte 0x80) = true := by decide
/-- V-I1 -/
theorem test_inx :
    ran { start with x := 0xFF, p := Flags.ofByte 0x01 } [0xE8]
      (fun t => t.x == 0x00 && t.p == Flags.ofByte 0x03) = true := by decide
/-- V-I14 -/
theorem test_inx_is_binary :
    ran { start with x := 0x09, p := Flags.ofByte 0x08 } [0xE8]
      (fun t => t.x == 0x0A && t.p == Flags.ofByte 0x08) = true := by decide
/-- V-I3 -/
theorem test_iny :
    ran { start with y := 0x7F, p := Flags.ofByte 0x40 } [0xC8]
      (fun t => t.y == 0x80 && t.p == Flags.ofByte 0xC0) = true := by decide
/-- V-I6 -/
theorem test_dex :
    ran { start with x := 0x00, p := Flags.ofByte 0x01 } [0xCA]
      (fun t => t.x == 0xFF && t.p == Flags.ofByte 0x81) = true := by decide
/-- V-I8 -/
theorem test_dey :
    ran { start with y := 0x80 } [0x88]
      (fun t => t.y == 0x7F && t.p == Flags.ofByte 0x00) = true := by decide
/-- V-G3, V-G10 -/
theorem test_and :
    ran { start with a := 0x80, p := Flags.ofByte 0x41 } [0x29, 0xFF]
      (fun t => t.a == 0x80 && t.p == Flags.ofByte 0xC1) = true := by decide
/-- V-G4 -/
theorem test_ora :
    ran { start with a := 0x42 } [0x09, 0x0F]
      (fun t => t.a == 0x4F && t.p == Flags.ofByte 0x00) = true := by decide
/-- V-G7 -/
theorem test_eor :
    ran { start with a := 0x42 } [0x49, 0x0F]
      (fun t => t.a == 0x4D && t.p == Flags.ofByte 0x00) = true := by decide
/-- V-G9 -/
theorem test_eor_zero :
    ran { start with a := 0x42 } [0x49, 0x42]
      (fun t => t.a == 0x00 && t.p == Flags.ofByte 0x02) = true := by decide
/-- V-B1 -/
theorem test_bit_sets_n_and_z :
    ran { start with a := 0x0F, mem := [(0x10, 0xF0)], p := Flags.ofByte 0x01 } [0x24, 0x10]
      (fun t => t.a == 0x0F && t.p == Flags.ofByte 0xC3) = true := by decide
/-- V-B5 -/
theorem test_bit_clears :
    ran { start with a := 0x80, mem := [(0x200, 0x80)], p := Flags.ofByte 0x40 } [0x2C, 0x00, 0x02]
      (fun t => t.p == Flags.ofByte 0x80) = true := by decide
/-- V-S2 -/
theorem test_asl_accumulator :
    ran { start with a := 0x81 } [0x0A]
      (fun t => t.a == 0x02 && t.p == Flags.ofByte 0x01) = true := by decide
/-- V-S22 -/
theorem test_asl_memory :
    ran { start with mem := [(0x10, 0xC1)] } [0x06, 0x10]
      (fun t => t.mem.read 0x10 == 0x82 && t.a == 0x00 && t.p == Flags.ofByte 0x81) = true := by decide
/-- V-S6 -/
theorem test_lsr_accumulator :
    ran { start with a := 0x81, p := Flags.ofByte 0x80 } [0x4A]
      (fun t => t.a == 0x40 && t.p == Flags.ofByte 0x01) = true := by decide
/-- V-S20 -/
theorem test_lsr_memory :
    ran { start with mem := [(0x10, 0x01)] } [0x46, 0x10]
      (fun t => t.mem.read 0x10 == 0x00 && t.p == Flags.ofByte 0x03) = true := by decide
/-- V-S10 -/
theorem test_rol_accumulator :
    ran { start with a := 0x42, p := Flags.ofByte 0x01 } [0x2A]
      (fun t => t.a == 0x85 && t.p == Flags.ofByte 0x80) = true := by decide
/-- V-S23 -/
theorem test_rol_memory :
    ran { start with mem := [(0x11, 0x40)], p := Flags.ofByte 0x01 } [0x26, 0x11]
      (fun t => t.mem.read 0x11 == 0x81 && t.p == Flags.ofByte 0x80) = true := by decide
/-- V-S17 -/
theorem test_ror_accumulator :
    ran { start with a := 0x80, p := Flags.ofByte 0x01 } [0x6A]
      (fun t => t.a == 0xC0 && t.p == Flags.ofByte 0x80) = true := by decide
/-- V-S21 -/
theorem test_ror_memory :
    ran { start with x := 0x02, mem := [(0x202, 0x01)], p := Flags.ofByte 0x01 } [0x7E, 0x00, 0x02]
      (fun t => t.mem.read 0x202 == 0x80 && t.p == Flags.ofByte 0x81) = true := by decide
/-- V-K2 -/
theorem test_pha_wraps :
    ran { start with a := 0x77, sp := 0x00 } [0x48]
      (fun t => t.mem.read 0x100 == 0x77 && t.sp == 0xFF && t.a == 0x77) = true := by decide
/-- V-K4 -/
theorem test_pla_wraps :
    ran { start with mem := [(0x100, 0x80)] } [0x68]
      (fun t => t.a == 0x80 && t.sp == 0x00 && t.p == Flags.ofByte 0x80) = true := by decide
/-- V-K7 -/
theorem test_php :
    ran { start with sp := 0xFD, p := Flags.ofByte 0x07 } [0x08]
      (fun t => t.mem.read 0x1FD == 0x37 && t.sp == 0xFC && t.p == Flags.ofByte 0x07) = true := by decide
/-- V-K8 -/
theorem test_plp :
    ran { start with sp := 0xFC, mem := [(0x1FD, 0xC3)] } [0x28]
      (fun t => t.p == Flags.ofByte 0xC3 && t.sp == 0xFD) = true := by decide
/-- V-K11 -/
theorem test_plp_ignores_bits_5_and_4 :
    ran { start with sp := 0xFD, mem := [(0x1FE, 0x30)], p := Flags.ofByte 0x81 } [0x28]
      (fun t => t.p == Flags.ofByte 0x00) = true := by decide
/-- V-F1 -/
theorem test_jmp_absolute :
    ran { start with p := Flags.ofByte 0x81 } [0x4C, 0x34, 0x12]
      (fun t => t.pc == 0x1234 && t.sp == 0xFF && t.p == Flags.ofByte 0x81) = true := by decide
/-- V-M15 -/
theorem test_jmp_indirect_same_page :
    ran { start with mem := [(0x3000, 0x90), (0x3100, 0xA0)] } [0x6C, 0xFF, 0x30]
      (fun t => t.pc == 0x9000) = true := by decide
/-- V-M15, `JmpIndirectPageWrap = false` -/
theorem test_jmp_indirect_next_page :
    ran { start with params := { Params.nmos with jmpIndirectPageWrap := false }, mem := [(0x3000, 0x90), (0x3100, 0xA0)] } [0x6C, 0xFF, 0x30]
      (fun t => t.pc == 0xA000) = true := by decide
/-- V-F3 -/
theorem test_jsr :
    ran { start with pc := 0x1000 } [0x20, 0x00, 0x30]
      (fun t => t.pc == 0x3000 && t.sp == 0xFD && t.mem.read 0x1FF == 0x10 && t.mem.read 0x1FE == 0x02) = true := by decide
/-- V-F4 -/
theorem test_jsr_wraps :
    ran { start with sp := 0x00 } [0x20, 0x00, 0x30]
      (fun t => t.sp == 0xFE && t.mem.read 0x100 == 0x20 && t.mem.read 0x1FF == 0x02) = true := by decide
/-- V-F6 -/
theorem test_rts :
    ran { start with sp := 0xFD, mem := [(0x1FE, 0x02), (0x1FF, 0x10)] } [0x60]
      (fun t => t.pc == 0x1003 && t.sp == 0xFF) = true := by decide
/-- V-F7 -/
theorem test_rts_wraps :
    ran { start with sp := 0xFE, mem := [(0x100, 0xFF), (0x1FF, 0xFF)] } [0x60]
      (fun t => t.pc == 0x0000 && t.sp == 0x00) = true := by decide
/-- V-F9 -/
theorem test_bcc_taken :
    ran { start with p := Flags.ofByte 0x00 } [0x90, 0x05]
      (fun t => t.pc == 0x2007 && t.p == Flags.ofByte 0x00) = true := by decide
/-- V-F9 -/
theorem test_bcc_not_taken :
    ran { start with p := Flags.ofByte 0x01 } [0x90, 0x05]
      (fun t => t.pc == 0x2002 && t.p == Flags.ofByte 0x01) = true := by decide
/-- V-F10 -/
theorem test_bcs_taken :
    ran { start with p := Flags.ofByte 0x01 } [0xB0, 0xFC]
      (fun t => t.pc == 0x1FFE && t.p == Flags.ofByte 0x01) = true := by decide
/-- V-F10 -/
theorem test_bcs_not_taken :
    ran { start with p := Flags.ofByte 0x00 } [0xB0, 0xFC]
      (fun t => t.pc == 0x2002 && t.p == Flags.ofByte 0x00) = true := by decide
/-- V-F11 -/
theorem test_beq_taken :
    ran { start with p := Flags.ofByte 0x02 } [0xF0, 0x7F]
      (fun t => t.pc == 0x2081 && t.p == Flags.ofByte 0x02) = true := by decide
/-- V-F11 -/
theorem test_beq_not_taken :
    ran { start with p := Flags.ofByte 0x00 } [0xF0, 0x7F]
      (fun t => t.pc == 0x2002 && t.p == Flags.ofByte 0x00) = true := by decide
/-- V-F12 -/
theorem test_bne_taken :
    ran { start with p := Flags.ofByte 0x00 } [0xD0, 0x03]
      (fun t => t.pc == 0x2005 && t.p == Flags.ofByte 0x00) = true := by decide
/-- V-F12 -/
theorem test_bne_not_taken :
    ran { start with p := Flags.ofByte 0x02 } [0xD0, 0x03]
      (fun t => t.pc == 0x2002 && t.p == Flags.ofByte 0x02) = true := by decide
/-- V-F13 -/
theorem test_bmi_taken :
    ran { start with p := Flags.ofByte 0x80 } [0x30, 0x80]
      (fun t => t.pc == 0x1F82 && t.p == Flags.ofByte 0x80) = true := by decide
/-- V-F13 -/
theorem test_bmi_not_taken :
    ran { start with p := Flags.ofByte 0x00 } [0x30, 0x80]
      (fun t => t.pc == 0x2002 && t.p == Flags.ofByte 0x00) = true := by decide
/-- V-F14 -/
theorem test_bpl_taken :
    ran { start with p := Flags.ofByte 0x00 } [0x10, 0xFE]
      (fun t => t.pc == 0x2000 && t.p == Flags.ofByte 0x00) = true := by decide
/-- V-F14 -/
theorem test_bpl_not_taken :
    ran { start with p := Flags.ofByte 0x80 } [0x10, 0xFE]
      (fun t => t.pc == 0x2002 && t.p == Flags.ofByte 0x80) = true := by decide
/-- V-F15 -/
theorem test_bvc_taken :
    ran { start with p := Flags.ofByte 0x00 } [0x50, 0x10]
      (fun t => t.pc == 0x2012 && t.p == Flags.ofByte 0x00) = true := by decide
/-- V-F15 -/
theorem test_bvc_not_taken :
    ran { start with p := Flags.ofByte 0x40 } [0x50, 0x10]
      (fun t => t.pc == 0x2002 && t.p == Flags.ofByte 0x40) = true := by decide
/-- V-F16 -/
theorem test_bvs_taken_wraps :
    ran { start with pc := 0xFFF0, p := Flags.ofByte 0x40 } [0x70, 0x20]
      (fun t => t.pc == 0x0012) = true := by decide
/-- V-F16 -/
theorem test_bvs_not_taken :
    ran { start with pc := 0xFFF0 } [0x70, 0x20]
      (fun t => t.pc == 0xFFF2) = true := by decide
/-- V-P1 -/
theorem test_clc :
    ran { start with p := Flags.ofByte 0xCF } [0x18]
      (fun t => t.p == Flags.ofByte 0xCE && t.pc == 0x2001) = true := by decide
/-- V-P2 -/
theorem test_sec :
    ran { start with p := Flags.ofByte 0x00 } [0x38]
      (fun t => t.p == Flags.ofByte 0x01 && t.pc == 0x2001) = true := by decide
/-- V-P3 -/
theorem test_cld :
    ran { start with p := Flags.ofByte 0xCF } [0xD8]
      (fun t => t.p == Flags.ofByte 0xC7 && t.pc == 0x2001) = true := by decide
/-- V-P4 -/
theorem test_sed :
    ran { start with p := Flags.ofByte 0x00 } [0xF8]
      (fun t => t.p == Flags.ofByte 0x08 && t.pc == 0x2001) = true := by decide
/-- V-P5 -/
theorem test_cli :
    ran { start with p := Flags.ofByte 0xCF } [0x58]
      (fun t => t.p == Flags.ofByte 0xCB && t.pc == 0x2001) = true := by decide
/-- V-P6 -/
theorem test_sei :
    ran { start with p := Flags.ofByte 0x00 } [0x78]
      (fun t => t.p == Flags.ofByte 0x04 && t.pc == 0x2001) = true := by decide
/-- V-P7 -/
theorem test_clv :
    ran { start with p := Flags.ofByte 0xCF } [0xB8]
      (fun t => t.p == Flags.ofByte 0x8F && t.pc == 0x2001) = true := by decide
/-- V-P8 -/
theorem test_nop :
    ran { start with p := Flags.ofByte 0xCF } [0xEA]
      (fun t => decide ({ t with pc := 0x2000, draws := 0, mem := [] } = { start with p := Flags.ofByte 0xCF })) = true := by decide
/-- V-BRK2 -/
theorem test_brk :
    ran { start with pc := 0x1232, mem := [(0xFFFF, 0x90)], p := Flags.ofByte 0x8D } [0x00]
      (fun t => t.pc == 0x9000 && t.sp == 0xFC && t.p == Flags.ofByte 0x8D && t.mem.read 0x1FF == 0x12 && t.mem.read 0x1FE == 0x34 && t.mem.read 0x1FD == 0xBD) = true := by decide
/-- V-BRK3 -/
theorem test_brk_at_top_of_memory :
    ran { start with pc := 0xFFFF } [0x00]
      (fun t => t.pc == 0x0000 && t.p == Flags.ofByte 0x04 && t.mem.read 0x1FF == 0x00 && t.mem.read 0x1FE == 0x01 && t.mem.read 0x1FD == 0x30) = true := by decide
/-- V-RTI1 -/
theorem test_rti :
    ran { start with sp := 0xFC, mem := [(0x1FD, 0xE1), (0x1FE, 0x34), (0x1FF, 0x12)], p := Flags.ofByte 0x04 } [0x40]
      (fun t => t.pc == 0x1234 && t.sp == 0xFF && t.p == Flags.ofByte 0xC1) = true := by decide

/-! ### Events of the boundary -/

/-- The vectors of 95_test_vectors.md, section 2.12. -/
def vectored : State :=
  { start with pc := 0x1234, mem := [(0xFFFB, 0xA0), (0xFFFD, 0x80), (0xFFFF, 0x90)] }

/-- V-IRQ1 -/
theorem test_irq_entry :
    ran { vectored with inputs := [.lines false false true], p := Flags.ofByte 0x89 } []
      (fun t => t.pc == 0x9000 && t.sp == 0xFC && t.p == Flags.ofByte 0x8D && t.mem.read 0x1FF == 0x12 && t.mem.read 0x1FE == 0x34 && t.mem.read 0x1FD == 0xA9) = true := by decide
/-- V-IRQ2: the BRK at $1234 runs instead -/
theorem test_irq_masked :
    ran { vectored with inputs := [.lines false false true], p := Flags.ofByte 0x04 } []
      (fun t => t.mem.read 0x1FE == 0x36) = true := by decide
/-- V-NMI1 -/
theorem test_nmi_entry :
    ran { vectored with nmiPending := true, p := Flags.ofByte 0x8D } []
      (fun t => t.pc == 0xA000 && t.sp == 0xFC && !t.nmiPending && t.mem.read 0x1FD == 0xAD) = true := by decide
/-- V-NMI2 -/
theorem test_nmi_before_irq :
    ran { vectored with inputs := [.lines false true true] } []
      (fun t => t.pc == 0xA000 && t.p.i && !t.nmiPending && t.mem.read 0x1FD == 0x20) = true := by decide
/-- V-SO1 -/
theorem test_so_edge :
    ran { vectored with inputs := [.soEdge] } []
      (fun t => t.p.v && t.pc == 0x1234 && t.sp == 0xFF) = true := by decide
/-- V-RST1 -/
theorem test_reset_step :
    ran { vectored with inputs := [.lines true true true], nmiPending := true } []
      (fun t => t.pc == 0x8000 && t.sp == 0xFD && t.p.i && !t.nmiPending) = true := by decide
/-- R8, kind 5 -/
theorem test_device_change :
    ran { vectored with inputs := [.change 0xD800 0x5A], platform := platformCommodore64 } []
      (fun t => t.mem.read 0xD800 == 0x5A && t.pc == 0x1234) = true := by decide
/-- log entry 10 -/
theorem test_change_of_ram_does_nothing :
    ran { vectored with inputs := [.change 0xD800 0x5A] } []
      (fun t => t.mem.read 0xD800 == 0x00 && t.pc == 0x1234) = true := by decide
/-- V-ILL1 -/
theorem test_illegal_opcode :
    (match step (put start 0x2000 [0x02]) with
     | .fault f => decide (f = .illegalOpcode 0x02)
     | .next _ | .refused _ => false) = true := by decide
/-- R32: a ROM ignores a write -/
theorem test_rom_ignores_a_write :
    ran { start with a := 0x42, platform := platformApple2 } [0x8D, 0x00, 0xC1] (fun t => t.mem.read 0xC100 == 0x00) = true := by
  decide
/-- R29: the state after reset -/
theorem test_reset : State.reset.sp = 0xFD ∧ State.reset.p.i = true ∧ State.reset.pc = State.reset.read16 vecReset := by decide
/-- LDA #$42 placed where the first instruction after reset is fetched -/
theorem test_withFetchWord :
    (match step (State.reset.withFetchWord 16 0x42A9) with
     | .next t => t.a == 0x42 && t.pc == 0x0002
     | .fault _ | .refused _ => false) = true := by decide
/-- S27 with the vector and the code in memory: the RESET step, then no instruction of the program before `pc` $8000 -/
theorem test_halt : runUntil 0x8000 1 { vectored with inputs := [.lines true false false] } matches .halted _ := by decide

/-! ### Accesses, cycles, assembler -/

/-- V-M6 -/
theorem test_accesses_indexed_indirect :
    dataAccesses (.ldaIzx 0xF0) { start with x := 0x0F, mem := [(0x00, 0x12), (0xFF, 0x34)] } =
      [.read 0x00FF, .read 0x0000, .read 0x1234] := by decide
/-- V-BRK1 -/
theorem test_accesses_brk :
    dataAccesses .brk { start with p := Flags.ofByte 0x03 } =
      [.write 0x01FF 0x20, .write 0x01FE 0x02, .write 0x01FD 0x33, .read 0xFFFE, .read 0xFFFF] := by decide
/-- S40, and R210's page crossing -/
theorem test_cycles :
    cycles (.ldaZp 0x80) start = 3 ∧ cycles (.ldaAbs 0x0080) start = 4 ∧
    cycles (.ldaAbx 0x12F0) { start with x := 0x20 } = 5 ∧ cycles (.staAbx 0x12F0) { start with x := 0x20 } = 5 := by decide
/-- S29 -/
theorem test_assemble_far_branch :
    assemble 0x2000 (farBranchIfEqual (.num 0x1234)) = some [0xD0, 0x03, 0x4C, 0x34, 0x12] := by decide
/-- S40: the zero-page form where the address is known to be in page zero -/
theorem test_assemble_zero_page :
    assemble 0x2000 [.op .lda (.addr (.num 0x0080)), .op .sta (.imm 0x00)] = none ∧
    assemble 0x2000 [.op .lda (.addr (.num 0x0080))] = some [0xA5, 0x80] := by decide

/-! ### A case that meets the hypotheses of each statement -/

theorem witness_DecodedBytesAreTheEncoding :
    decode [0xAD, 0x34, 0x12, 0xEA] = .ok (.ldaAbs 0x1234, [0xEA]) := rfl
theorem witness_OneHundredFiftyOneOpcodes :
    (0x03 : Byte).getLsbD 0 = true ∧ (0x03 : Byte).getLsbD 1 = true ∧ (0xFF : Byte).getLsbD 0 = true ∧
    (0xFF : Byte).getLsbD 1 = true := by decide
/-- LDA #$42 at $2000. -/
def quietState : State := put start 0x2000 [0xA9, 0x42]
theorem witness_StepRunsTheDecodedInstruction :
    quietState.event = .instruction ∧
    decode [quietState.ready.read .opcode 0x2000, quietState.ready.read .operandLo 0x2001,
      quietState.ready.read .operandHi 0x2002] = .ok (.ldaImm 0x42, [0x00]) := ⟨by decide, rfl⟩
theorem witness_IllegalOpcodeFaults :
    (put start 0x2000 [0xFF]).event = .instruction ∧
    (lookup ((put start 0x2000 [0xFF]).ready.read .opcode 0x2000)).isNone = true := by decide
theorem witness_BoundaryOrder_reset :
    ({ vectored with inputs := [.lines true true true] } : State).event = .reset := by decide
theorem witness_BoundaryOrder_nmi :
    ({ vectored with inputs := [.lines false true true] } : State).event = .nmi ∧
    ({ vectored with inputs := [.lines false false true], nmiPending := true } : State).event = .nmi := by decide
theorem witness_BoundaryOrder_irq :
    ({ vectored with inputs := [.lines false false true] } : State).event = .irq := by decide
theorem witness_BoundaryOrder_instruction :
    ({ vectored with inputs := [] } : State).input = .lines false false false ∧
    ({ vectored with inputs := [] } : State).event = .instruction ∧
    ({ vectored with inputs := [.lines false false true], p := Flags.ofByte 0x04 } : State).event = .instruction := by decide
theorem witness_ResetStepLoadsTheVector :
    ({ vectored with inputs := [.lines true false true] } : State).inputs = .lines true false true :: [] ∧
    ({ Params.nmos with clearDOnInterrupt := true } : Params).clearDOnInterrupt = true := ⟨rfl, rfl⟩
theorem witness_NmiEntryTakesTheNmiVector :
    let s : State := { vectored with inputs := [.lines false false true], nmiPending := true }
    s.input = .lines false false true ∧ s.nmiPending = true ∧ s.wf = true := by decide
theorem witness_NmiEntry_no_input :
    let s : State := { vectored with inputs := [], nmiPending := true }
    s.input = .lines false false false ∧ s.nmiPending = true ∧ s.wf = true := by decide
theorem witness_NmiEntry_edge :
    let s : State := { vectored with inputs := [.lines false true false], p := Flags.ofByte 0x04 }
    s.input = .lines false true false ∧ s.nmiPending = false ∧ s.wf = true := by decide
theorem witness_IrqEntryTakesTheIrqVector :
    let s : State := { vectored with inputs := [.lines false false true] }
    s.inputs = .lines false false true :: [] ∧ s.nmiPending = false ∧ s.effectiveI = false ∧ s.wf = true := by decide
theorem witness_IrqEntry_right_after_cli :
    let s : State := { vectored with inputs := [.lines false false true], iWindow := some false }
    s.inputs = .lines false false true :: [] ∧ s.nmiPending = false ∧ s.effectiveI = false ∧ s.wf = true := ⟨rfl, rfl, ite_self _, rfl⟩
theorem witness_MaskedIrqLineHasNoEffect :
    let s : State := { vectored with p := Flags.ofByte 0x04 }
    s.iWindow = none ∧ s.p.i = true := by decide
theorem witness_InterruptMaskWindow_none :
    vectored.iWindow = none := by decide
theorem witness_InterruptMaskWindow_some :
    ({ vectored with iWindow := some true } : State).iWindow = some true := by decide
theorem witness_InterruptMaskWindow_exec :
    (∃ t, exec .sei vectored = .next t) ∧ (∃ t, exec .nop vectored = .next t) := ⟨⟨_, rfl⟩, ⟨_, rfl⟩⟩
theorem witness_InterruptMaskWindow_nmi :
    let s : State := { vectored with inputs := [.lines false true false] }
    s.event = .nmi ∧ ∃ t, step s = .next t := ⟨by decide, _, rfl⟩
theorem witness_InterruptMaskWindow_irq :
    let s : State := { vectored with inputs := [.lines false false true] }
    s.event = .irq ∧ ∃ t, step s = .next t := ⟨by decide, _, rfl⟩
theorem witness_InterruptMaskWindow_reset :
    let s : State := { vectored with inputs := [.lines true false false] }
    s.event = .reset ∧ ∃ t, step s = .next t := ⟨by decide, _, rfl⟩
theorem witness_SoEdgeSetsOnlyV :
    ({ vectored with inputs := [.soEdge] } : State).inputs = .soEdge :: [] := rfl
theorem witness_DeviceChangeChangesOneByte :
    let s : State := { vectored with inputs := [.change 0xD800 0x5A], platform := platformCommodore64 }
    s.inputs = .change 0xD800 0x5A :: [] ∧ kindAt s.platform 0xD800 = .deviceMemory ∧ s.wf = true ∧
    holdsByte (kindAt s.platform 0xD800) = true ∧ holdsByte (kindAt s.platform 0xDBFF) = true := by decide
theorem witness_EveryStepKeepsMemoryCanonical :
    quietState.wf = true ∧ ∃ t, step quietState = .next t := ⟨by decide, _, rfl⟩
theorem witness_NoStepChangesTheConfiguration :
    ∃ t, step quietState = .next t := ⟨_, rfl⟩
theorem witness_WriteChangesItsByteOnly :
    quietState.wf = true ∧ takesWrite (kindAt quietState.platform 0xFFFF) = true ∧
    takesWrite (kindAt platformApple2 0xC100) = false := by decide
theorem witness_AssembledDisplacement_reached :
    displacement 0x2000 0x2081 = some 0x7F ∧ displacement 0x2000 0x1F82 = some 0x80 := by decide
theorem witness_AssembledDisplacement_out_of_reach :
    displacement 0x2000 0x2082 = none ∧ displacement 0x2000 0x1F81 = none := by decide
theorem witness_LoadsPutTheOperandInTheRegister :
    (Instr.ldaImm 0x42).mnemonic = .lda ∧ (Instr.ldxZpy 0xFF).mnemonic = .ldx ∧ (Instr.ldyAbx 0xFFFF).mnemonic = .ldy := by decide
theorem witness_StoresPutTheRegisterInMemory :
    (Instr.staIzy 0x20).mnemonic = .sta ∧ (Instr.stxZpy 0xF0).mnemonic = .stx ∧ (Instr.styAbs 0x0200).mnemonic = .sty ∧
    start.wf = true := by decide
theorem witness_BinaryAdcAddsWithCarry :
    (Instr.adcImm 0x10).mnemonic = .adc ∧ start.p.d = false ∧ operandByte (.adcImm 0x10) start = some 0x10 := by decide
theorem witness_BinaryAdc_without_decimal_mode :
    ({ Params.nmos with decimalEnabled := false } : Params).decimalEnabled = false ∧ (Instr.adcIzy 0xFF).mnemonic = .adc := by decide
theorem witness_BinarySbcSubtractsWithBorrow :
    (Instr.sbcAbx 0xFFFF).mnemonic = .sbc ∧ start.p.d = false ∧ operandByte (.sbcAbx 0xFFFF) start = some 0x00 := by decide
/-- D is 1 and A holds the decimal 99. -/
def decimalState : State := { start with a := 0x99, p := Flags.ofByte 0x08 }
theorem witness_DecimalArithmeticWorksOnDigits :
    decimalState.p.d = true ∧ decimalState.params.decimalEnabled = true ∧ decimalState.a = digits 9 9 ∧
    operandByte (.adcImm 0x01) decimalState = some (digits 0 1) ∧ (Instr.adcImm 0x01).mnemonic = .adc ∧
    operandByte (.sbcImm 0x99) decimalState = some (digits 9 9) ∧ (Instr.sbcImm 0x99).mnemonic = .sbc := by decide
theorem witness_DecimalArithmeticAlwaysCompletes :
    decimalState.p.d = true ∧ decimalState.params.decimalEnabled = true ∧ (Instr.adcImm 0x0A).mnemonic = .adc ∧
    (Instr.sbcZp 0x10).mnemonic = .sbc := by decide
theorem witness_BinaryArithmeticIsSignedAndComplement :
    decimalMode start = false := by decide
theorem witness_ComparesSetCarryZeroNegative :
    (Instr.cmpIzx 0xFF).mnemonic = .cmp ∧ (Instr.cpxAbs 0x1234).mnemonic = .cpx ∧ (Instr.cpyImm 0x00).mnemonic = .cpy := by decide
theorem witness_IncAndDecModifyMemory :
    (Instr.incAbx 0xFFFF).mnemonic = .inc ∧ (Instr.decZpx 0xFF).mnemonic = .dec ∧ start.wf = true := by decide
theorem witness_LogicCombinesBitByBit :
    (Instr.andImm 0x0F).mnemonic = .and ∧ (Instr.oraAby 0xFFFF).mnemonic = .ora ∧ (Instr.eorIzy 0xFF).mnemonic = .eor := by decide
theorem witness_BitTestsTheOperand :
    (Instr.bitZp 0xFF).mnemonic = .bit := by decide
theorem witness_ShiftsMoveEveryBitByOne :
    Instr.aslAcc.mnemonic = .asl ∧ (Instr.lsrZp 0x10).mnemonic = .lsr ∧ (Instr.rolAbx 0xFFFF).mnemonic = .rol ∧
    (Instr.rorZpx 0xFF).mnemonic = .ror ∧ start.wf = true := by decide
theorem witness_PullAfterPushReturnsTheByte :
    ({ start with sp := 0x00 } : State).wf = true ∧ takesWrite (kindAt start.platform (stackAddr 0x00)) = true ∧
    takesWrite (kindAt start.platform (stackAddr 0xFF)) = true := by decide
theorem witness_PushAndPullMoveTheStackPointer :
    start.wf = true := by decide
theorem witness_PushInstructionsStoreOneByte :
    ({ start with sp := 0x00 } : State).wf = true := by decide
theorem witness_JmpGoesToTheTarget :
    (Instr.jmpInd 0x30FF).mnemonic = .jmp ∧ start.params.jmpIndirectPageWrap = true ∧
    ({ Params.nmos with jmpIndirectPageWrap := false } : Params).jmpIndirectPageWrap = false := by decide
theorem witness_JsrPushesTheReturnAddressLessOne :
    (Instr.jsr 0x3000).mnemonic = .jsr ∧ ({ start with sp := 0x00 } : State).wf = true := by decide
theorem witness_RtsAfterJsrReturns :
    let s : State := { start with sp := 0x00 }
    s.wf = true ∧ takesWrite (kindAt s.platform (stackAddr s.sp)) = true ∧
    takesWrite (kindAt s.platform (stackAddr (s.sp - 1))) = true := by decide
theorem witness_BrkTakesTheIrqVector :
    vectored.wf = true := by decide
theorem witness_RtiAfterBrkResumes :
    let s : State := { start with sp := 0x01 }
    s.wf = true ∧ StackTakes s := ⟨by decide, by decide, by decide, by decide⟩
theorem witness_BreakBit_brk :
    let s : State := { start with sp := 0x01 }
    s.wf = true ∧ takesWrite (kindAt s.platform (stackAddr (s.sp - 2))) = true := by decide
theorem witness_BreakBit_irq :
    let s : State := { vectored with sp := 0x01, inputs := [.lines false false true] }
    s.wf = true ∧ takesWrite (kindAt s.platform (stackAddr (s.sp - 2))) = true ∧ s.event = .irq := by decide
theorem witness_BreakBit_nmi :
    let s : State := { vectored with nmiPending := true, p := Flags.ofByte 0x04 }
    s.wf = true ∧ takesWrite (kindAt s.platform (stackAddr (s.sp - 2))) = true ∧ s.event = .nmi := by decide
theorem witness_FlagWritersTable :
    (∃ t, exec .nop start = .next t) ∧ Instr.nop.mnemonic ∉ [.cld, .sed, .plp, .rti] ∧ Instr.nop.mnemonic ≠ .brk := ⟨⟨_, rfl⟩, by decide, by decide⟩
theorem witness_FlagWriters_brk :
    (∃ t, exec .brk start = .next t) ∧ start.params.clearDOnInterrupt = false := ⟨⟨_, rfl⟩, rfl⟩
theorem witness_RegisterWritersTable :
    (∃ t, exec (.staZp 0x10) start = .next t) ∧ (Instr.staZp 0x10).operand ≠ .acc := ⟨⟨_, rfl⟩, by decide⟩
theorem witness_OnlyAdcAndSbcObeyDecimalMode :
    (∃ t, exec (.incZp 0x10) start = .next t) ∧
    (Instr.incZp 0x10).mnemonic ∉ [.adc, .sbc, .php, .brk, .cld, .sed, .plp, .rti] := ⟨⟨_, rfl⟩, by decide⟩
theorem witness_MemoryChangesByListedWritesOnly :
    ∃ t, exec (.jsr 0x3000) start = .next t := ⟨_, rfl⟩

end Sys2Proof.Tests
end

section
/-! PROOFS about the step as a whole (00_scope.md R3, R4, R8): what the boundary does before the processor or the
environment acts, the fetch read through the decoder, and one principle for everything that a step keeps. -/

namespace Sys2Proof.Machine

/-! ### The boundary: its input, its event, the state it hands on -/

theorem State.input_of_inputs_cons {s : State} {e : Input} {rest : List Input} (h : s.inputs = e :: rest) :
    s.input = e := by
  simp [State.input, h]

/-- Where no NMI edge arrives, passing the boundary consumes its input and makes the free values fresh. -/
theorem State.arrive_of_no_nmiEdge {s : State} (h : s.input.nmiEdge = false) :
    s.arrive = { s with inputs := s.inputs.tail, draws := s.draws + 1 } := by
  simp [State.arrive, h]

/-- The processor gets no instruction to run at a boundary where an NMI edge arrives (R175, R179). -/
theorem State.no_nmiEdge_of_event_instruction {s : State} (h : s.event = .instruction) :
    s.input.nmiEdge = false := by
  unfold State.event at h
  cases hin : s.input with
  | soEdge => rfl
  | change addr v => rfl
  | lines reset edge irq =>
    cases edge with
    | false => rfl
    | true => cases reset <;> simp [hin] at h

theorem State.ready_of_event_instruction {s : State} (h : s.event = .instruction) :
    s.ready = { s with inputs := s.inputs.tail, draws := s.draws + 1, iWindow := none } := by
  rw [State.ready, State.arrive_of_no_nmiEdge (State.no_nmiEdge_of_event_instruction h)]
  rfl

theorem step_of_event_instruction {s : State} (h : s.event = .instruction) : step s = runInstruction s.ready := by
  simp [step, h]

theorem step_of_input_change {s : State} {addr : Word} {v : Byte} (h : s.input = .change addr v) :
    step s = .next (s.arrive.deviceChange addr v) := by
  have he : s.event = .change addr v := by simp [State.event, h]
  simp [step, he]

/-! ### The fetch is the decoder on the three bytes at `pc` (R50, R52) -/

theorem State.fetch_eq_decode (s : State) :
    s.fetch =
      (decode [s.read .opcode s.pc, s.read .operandLo (s.pc + 1), s.read .operandHi (s.pc + 2)]).toOption.map
        Prod.fst := by
  simp only [State.fetch, State.opcode, decode]
  rcases lookup (s.read .opcode s.pc) with _ | ⟨i⟩ | ⟨k⟩ | ⟨k⟩ <;> rfl

theorem runInstruction_of_fetch {s : State} {i : Instr} (h : s.fetch = some i) : runInstruction s = exec i s := by
  simp [runInstruction, h]

/-- Settles O5: no NMI edge arrives at such a boundary, and the fetch is the decoder on the bytes at `pc`. -/
theorem stepRunsTheDecodedInstruction : Obligations.StepRunsTheDecodedInstruction := by
  intro s i rest hevent hdecode
  have hfetch : s.ready.fetch = some i := by
    rw [State.fetch_eq_decode, State.ready_pc, hdecode]
    rfl
  exact ⟨(step_of_event_instruction hevent).trans (runInstruction_of_fetch hfetch),
    State.ready_of_event_instruction hevent⟩

/-! ### The environment's change of a device-owned location (R8 kind 5) -/

/-- The change of a device-owned location is a write that the platform takes. -/
theorem State.deviceChange_eq_write {s : State} {addr : Word} (v : Byte)
    (h : kindAt s.platform addr = .deviceMemory) : s.deviceChange addr v = s.write addr v := by
  simp [State.deviceChange, State.write, h, takesWrite]

/-- Where memory answers, a read does not depend on what is drawn (R32). -/
theorem State.read_of_holdsByte {s : State} {b : Word} (k : Config.Draw)
    (h : holdsByte (kindAt s.platform b) = true) : s.read k b = s.mem.read b.toNat := by
  simp [State.read, h]

theorem State.arrive_read_of_holdsByte {s : State} {b : Word} (k : Config.Draw)
    (h : holdsByte (kindAt s.platform b) = true) : s.arrive.read k b = s.read k b := by
  rw [State.read_of_holdsByte k h]
  exact State.read_of_holdsByte k h

/-- Settles O15: the change is a write to memory alone, so the law of reads after a write says what each byte is. -/
theorem deviceChangeChangesOneByte : Obligations.DeviceChangeChangesOneByte := by
  intro s addr v rest hinputs hkind
  have hinput : s.input = .change addr v := State.input_of_inputs_cons hinputs
  refine ⟨s.arrive.write addr v, ?next, ?frame, ?bytes⟩
  case next =>
    have hkind' : kindAt s.arrive.platform addr = .deviceMemory := hkind
    rw [step_of_input_change hinput, State.deviceChange_eq_write v hkind']
  case frame =>
    have harrive : s.arrive = { s with inputs := rest, draws := s.draws + 1 } := by
      rw [State.arrive_of_no_nmiEdge (by rw [hinput]; rfl), hinputs]
      rfl
    rw [State.write_eq, harrive]
  case bytes =>
    intro hwf k b hholds
    have htakes : takesWrite (kindAt s.platform addr) = true := by rw [hkind]; rfl
    rw [State.read_write s.arrive addr b v k hwf, State.arrive_read_of_holdsByte k hholds]
    simp [htakes]

/-! ### What the writes of the machine keep, every instruction and every step keeps -/

/-- The predicate is kept by the writes that instructions, entries and device changes are made of: a register, the
NMI latch, the window of R178, one byte of memory. -/
structure KeptByWrites (P : State → Prop) : Prop where
  after_setA : ∀ {s : State} (v : Byte), P s → P (s.setA v)
  after_setX : ∀ {s : State} (v : Byte), P s → P (s.setX v)
  after_setY : ∀ {s : State} (v : Byte), P s → P (s.setY v)
  after_setSp : ∀ {s : State} (v : Byte), P s → P (s.setSp v)
  after_setPc : ∀ {s : State} (v : Word), P s → P (s.setPc v)
  after_setP : ∀ {s : State} (v : Flags), P s → P (s.setP v)
  after_setNmiPending : ∀ {s : State} (v : Bool), P s → P (s.setNmiPending v)
  after_setIWindow : ∀ {s : State} (v : Option Bool), P s → P (s.setIWindow v)
  after_setByte : ∀ {s : State} (addr : Word) (v : Byte), P s → P (s.setMem (s.mem.write addr.toNat v))

/-- The instruction answers a next state, of which the predicate holds. -/
def Answers (P : State → Prop) (r : Result) : Prop := ∃ t, r = .next t ∧ P t

namespace KeptByWrites

variable {P : State → Prop} (h : KeptByWrites P) {s : State}
include h

/-! The shared operations. -/

theorem after_advance (n : Nat) (hs : P s) : P (s.advance n) := h.after_setPc _ hs

theorem after_write (addr : Word) (v : Byte) (hs : P s) : P (s.write addr v) := by
  unfold State.write
  split
  · exact h.after_setByte addr v hs
  · exact hs

theorem after_deviceChange (addr : Word) (v : Byte) (hs : P s) : P (s.deviceChange addr v) := by
  unfold State.deviceChange
  split
  · exact h.after_setByte addr v hs
  · exact hs

theorem after_push (v : Byte) (hs : P s) : P (s.push v) := h.after_setSp _ (h.after_write _ v hs)

theorem after_push16 (w : Word) (hs : P s) : P (s.push16 w) := h.after_push _ (h.after_push _ hs)

theorem after_pull (k : Config.Draw) (hs : P s) : P (s.pull k).2 := h.after_setSp _ hs

theorem after_interrupt (vector : Word) (b : Bool) (hs : P s) : P (s.interrupt vector b) :=
  h.after_setPc _ (h.after_setP _ (h.after_push _ (h.after_push16 _ hs)))

theorem after_returnFromInterrupt (hs : P s) : P s.returnFromInterrupt :=
  h.after_setPc _ (h.after_pull .pull3 (h.after_pull .pull2 (h.after_setP _ (h.after_pull .pull1 hs))))

theorem after_resetEntry (hs : P s) : P s.resetEntry :=
  h.after_setPc _ <| h.after_setIWindow _ <| h.after_setNmiPending _ <| h.after_setSp _ <| h.after_setP _ <|
    h.after_setY _ <| h.after_setX _ <| h.after_setA _ hs

/-! The effects of the instructions. -/

theorem after_loadA (m : Byte) (hs : P s) : P (loadA m s) := h.after_setP _ (h.after_setA _ hs)

theorem after_loadX (m : Byte) (hs : P s) : P (loadX m s) := h.after_setP _ (h.after_setX _ hs)

theorem after_loadY (m : Byte) (hs : P s) : P (loadY m s) := h.after_setP _ (h.after_setY _ hs)

theorem after_addWithCarry (m : Byte) (hs : P s) : P (addWithCarry m s) := by
  rw [addWithCarry_eq]
  exact h.after_setP _ (h.after_setA _ hs)

theorem after_subtractWithCarry (m : Byte) (hs : P s) : P (subtractWithCarry m s) := by
  rw [subtractWithCarry_eq]
  exact h.after_setP _ (h.after_setA _ hs)

theorem after_stepX (op : Byte → Flags → Byte × Flags) (hs : P s) : P (stepX op s) :=
  h.after_setP _ (h.after_setX _ hs)

theorem after_stepY (op : Byte → Flags → Byte × Flags) (hs : P s) : P (stepY op s) :=
  h.after_setP _ (h.after_setY _ hs)

theorem after_setLogic (r : Byte) (hs : P s) : P (setLogic r s) := h.after_setP _ (h.after_setA _ hs)

theorem after_pullA (hs : P s) : P (pullA s) := h.after_setP _ (h.after_setA _ (h.after_pull .pull1 hs))

theorem after_pullP (hs : P s) : P (pullP s) := h.after_setIWindow _ (h.after_setP _ (h.after_pull .pull1 hs))

theorem after_callSubroutine (w : Word) (hs : P s) : P (callSubroutine w s) := h.after_setPc _ (h.after_push16 _ hs)

theorem after_returnFromSubroutine (hs : P s) : P (returnFromSubroutine s) :=
  h.after_setPc _ (h.after_pull .pull2 (h.after_pull .pull1 hs))

theorem after_setI (v : Bool) (hs : P s) : P (setI v s) := h.after_setIWindow _ (h.after_setP _ hs)

theorem after_breakException (hs : P s) : P (breakException s) := h.after_interrupt _ _ (h.after_advance 1 hs)

/-! The operand shapes. -/

theorem answers_implied {f : State → State} (hf : ∀ {t}, P t → P (f t)) (hs : P s) : Answers P (implied f s) :=
  ⟨_, rfl, hf (h.after_advance 1 hs)⟩

theorem answers_readImm {f : Byte → State → State} (hf : ∀ {t} m, P t → P (f m t)) (b : Byte) (hs : P s) :
    Answers P (readImm b f s) :=
  ⟨_, rfl, hf b (h.after_advance 2 hs)⟩

theorem answers_readMem {f : Byte → State → State} (hf : ∀ {t} m, P t → P (f m t)) (r : MemRef) (hs : P s) :
    Answers P (readMem r f s) :=
  ⟨_, rfl, hf _ (h.after_advance _ hs)⟩

theorem answers_storeMem (r : MemRef) (v : State → Byte) (hs : P s) : Answers P (storeMem r v s) :=
  ⟨_, rfl, h.after_write _ _ (h.after_advance _ hs)⟩

theorem answers_modifyMem (r : MemRef) (op : Byte → Flags → Byte × Flags) (hs : P s) :
    Answers P (modifyMem r op s) :=
  ⟨_, rfl, h.after_setP _ (h.after_write _ _ (h.after_advance _ hs))⟩

theorem answers_modifyAcc (op : Byte → Flags → Byte × Flags) (hs : P s) : Answers P (modifyAcc op s) :=
  ⟨_, rfl, h.after_setP _ (h.after_setA _ (h.after_advance 1 hs))⟩

theorem answers_branchIf (cond : Flags → Bool) (disp : Byte) (hs : P s) : Answers P (branchIf cond disp s) :=
  ⟨_, branchIf_eq cond disp s, h.after_setPc _ hs⟩

/-! Every instruction, by its operand shape and its effect. -/

theorem answers_exec (i : Instr) (hs : P s) : Answers P (exec i s) := by
  cases i with
  | ldaImm b => exact h.answers_readImm h.after_loadA b hs
  | ldaZp _ | ldaZpx _ | ldaAbs _ | ldaAbx _ | ldaAby _ | ldaIzx _ | ldaIzy _ =>
    exact h.answers_readMem h.after_loadA _ hs
  | ldxImm b => exact h.answers_readImm h.after_loadX b hs
  | ldxZp _ | ldxZpy _ | ldxAbs _ | ldxAby _ => exact h.answers_readMem h.after_loadX _ hs
  | ldyImm b => exact h.answers_readImm h.after_loadY b hs
  | ldyZp _ | ldyZpx _ | ldyAbs _ | ldyAbx _ => exact h.answers_readMem h.after_loadY _ hs
  | staZp _ | staZpx _ | staAbs _ | staAbx _ | staAby _ | staIzx _ | staIzy _ | stxZp _ | stxZpy _ | stxAbs _
  | styZp _ | styZpx _ | styAbs _ => exact h.answers_storeMem _ _ hs
  | tax | tsx => exact h.answers_implied (h.after_loadX _) hs
  | tay => exact h.answers_implied (h.after_loadY _) hs
  | txa | tya => exact h.answers_implied (h.after_loadA _) hs
  | txs => exact h.answers_implied (h.after_setSp _) hs
  | adcImm b => exact h.answers_readImm h.after_addWithCarry b hs
  | adcZp _ | adcZpx _ | adcAbs _ | adcAbx _ | adcAby _ | adcIzx _ | adcIzy _ =>
    exact h.answers_readMem h.after_addWithCarry _ hs
  | sbcImm b => exact h.answers_readImm h.after_subtractWithCarry b hs
  | sbcZp _ | sbcZpx _ | sbcAbs _ | sbcAbx _ | sbcAby _ | sbcIzx _ | sbcIzy _ =>
    exact h.answers_readMem h.after_subtractWithCarry _ hs
  | cmpImm b | cpxImm b | cpyImm b => exact h.answers_readImm (fun _ => h.after_setP _) b hs
  | cmpZp _ | cmpZpx _ | cmpAbs _ | cmpAbx _ | cmpAby _ | cmpIzx _ | cmpIzy _ | cpxZp _ | cpxAbs _ | cpyZp _
  | cpyAbs _ | bitZp _ | bitAbs _ => exact h.answers_readMem (fun _ => h.after_setP _) _ hs
  | andImm b | oraImm b | eorImm b => exact h.answers_readImm (fun _ => h.after_setLogic _) b hs
  | andZp _ | andZpx _ | andAbs _ | andAbx _ | andAby _ | andIzx _ | andIzy _
  | oraZp _ | oraZpx _ | oraAbs _ | oraAbx _ | oraAby _ | oraIzx _ | oraIzy _
  | eorZp _ | eorZpx _ | eorAbs _ | eorAbx _ | eorAby _ | eorIzx _ | eorIzy _ =>
    exact h.answers_readMem (fun _ => h.after_setLogic _) _ hs
  | incZp _ | incZpx _ | incAbs _ | incAbx _ => exact h.answers_modifyMem _ incByte hs
  | decZp _ | decZpx _ | decAbs _ | decAbx _ => exact h.answers_modifyMem _ decByte hs
  | aslZp _ | aslZpx _ | aslAbs _ | aslAbx _ => exact h.answers_modifyMem _ aslByte hs
  | lsrZp _ | lsrZpx _ | lsrAbs _ | lsrAbx _ => exact h.answers_modifyMem _ lsrByte hs
  | rolZp _ | rolZpx _ | rolAbs _ | rolAbx _ => exact h.answers_modifyMem _ rolByte hs
  | rorZp _ | rorZpx _ | rorAbs _ | rorAbx _ => exact h.answers_modifyMem _ rorByte hs
  | aslAcc => exact h.answers_modifyAcc aslByte hs
  | lsrAcc => exact h.answers_modifyAcc lsrByte hs
  | rolAcc => exact h.answers_modifyAcc rolByte hs
  | rorAcc => exact h.answers_modifyAcc rorByte hs
  | inx | dex => exact h.answers_implied (h.after_stepX _) hs
  | iny | dey => exact h.answers_implied (h.after_stepY _) hs
  | pha | php => exact h.answers_implied (h.after_push _) hs
  | pla => exact h.answers_implied h.after_pullA hs
  | plp => exact h.answers_implied h.after_pullP hs
  | jmpAbs w | jmpInd w => exact ⟨_, rfl, h.after_setPc _ hs⟩
  | jsr w => exact ⟨_, rfl, h.after_callSubroutine w (h.after_advance 3 hs)⟩
  | rts => exact h.answers_implied h.after_returnFromSubroutine hs
  | bcc b | bcs b | beq b | bne b | bmi b | bpl b | bvc b | bvs b => exact h.answers_branchIf _ b hs
  | clc | sec | cld | sed | clv => exact h.answers_implied (h.after_setP _) hs
  | cli | sei => exact h.answers_implied (h.after_setI _) hs
  | nop => exact h.answers_implied id hs
  | brk => exact h.answers_implied h.after_breakException hs
  | rti => exact h.answers_implied h.after_returnFromInterrupt hs

theorem after_exec {i : Instr} {t : State} (hexec : exec i s = .next t) (hs : P s) : P t := by
  obtain ⟨u, hu, hPu⟩ := h.answers_exec i hs
  cases hexec.symm.trans hu
  exact hPu

/-- A step keeps what held when its boundary was passed, whichever of R8's events it is. -/
theorem after_step {t : State} (hstep : step s = .next t) (hs : P s.arrive) : P t := by
  have hready : P s.ready := h.after_setIWindow none hs
  rcases step_cases hstep with ⟨-, rfl⟩ | ⟨-, rfl⟩ | ⟨addr, v, -, rfl⟩ | ⟨-, rfl⟩ | ⟨-, rfl⟩ | ⟨-, i, -, hexec⟩
  · exact h.after_resetEntry hs
  · exact h.after_setP _ hs
  · exact h.after_deviceChange addr v hs
  · exact h.after_interrupt _ _ (h.after_setNmiPending false hready)
  · exact h.after_interrupt _ _ hready
  · exact h.after_exec hexec hready

end KeptByWrites

/-! ### The configuration (R3, R4) -/

/-- The second state has the parameters, the memory map, the step count and the coming inputs of the first. -/
def SameConfiguration (s t : State) : Prop :=
  t.params = s.params ∧ t.platform = s.platform ∧ t.draws = s.draws ∧ t.inputs = s.inputs

theorem SameConfiguration.keptByWrites (s : State) : KeptByWrites (SameConfiguration s) where
  after_setA _ hs := hs
  after_setX _ hs := hs
  after_setY _ hs := hs
  after_setSp _ hs := hs
  after_setPc _ hs := hs
  after_setP _ hs := hs
  after_setNmiPending _ hs := hs
  after_setIWindow _ hs := hs
  after_setByte _ _ hs := hs

/-- Settles O18: no write of the machine touches the configuration, so a step leaves it as the boundary did, and
passing the boundary counts one step and consumes one input. -/
theorem noStepChangesTheConfiguration : Obligations.NoStepChangesTheConfiguration := by
  intro s t hstep
  have hsame : SameConfiguration s.arrive t :=
    (SameConfiguration.keptByWrites s.arrive).after_step hstep ⟨rfl, rfl, rfl, rfl⟩
  exact hsame

end Sys2Proof.Machine
end

section
/-! PROOFS about the state (10_state.md): P as a byte, the values after reset, what I masks, and the P that an entry
pushes. -/

namespace Sys2Proof.Machine

open Sys2Proof.Claims

/-! ### P as a byte (R26, R27) -/

/-- The formula of R26 gives its bit layout, by its finitely many flags. -/
theorem Flags.toByte_eq_statusByte (p : Flags) (b : Bool) : p.toByte b = statusByte p b := by
  obtain ⟨n, v, d, i, z, c⟩ := p
  revert n v d i z c b
  decide

/-- The layout holds each flag at the bit from which R27 loads it, and the Break bit at bit 4. -/
theorem statusByte_bits (p : Flags) (b : Bool) :
    statusOf (statusByte p b) = p ∧ (statusByte p b).getLsbD 4 = b := by
  obtain ⟨n, v, d, i, z, c⟩ := p
  revert n v d i z c b
  decide

theorem Flags.ofByte_eq_statusOf (v : Byte) : Flags.ofByte v = statusOf v := rfl

/-- Settles O19, by the formula's equality with the layout. -/
theorem pushedStatusByteLayout : Obligations.PushedStatusByteLayout := Flags.toByte_eq_statusByte

/-- Settles O20: the pushed byte is R26's layout, from which R27 loads the flags back. -/
theorem pulledStatusByteLoadsSixFlags : Obligations.PulledStatusByteLoadsSixFlags := by
  refine ⟨Flags.ofByte_eq_statusOf, fun p b => ?restored⟩
  case restored =>
    rw [Flags.toByte_eq_statusByte, Flags.ofByte_eq_statusOf]
    exact (statusByte_bits p b).1

/-! ### The state after reset (R29, R30) -/

/-- Settles O9: the five values are those that the definition of the state after reset computes to. -/
theorem resetStateHasTheStatedValues : Obligations.ResetStateHasTheStatedValues :=
  ⟨rfl, rfl, rfl, rfl, rfl⟩

/-- Settles O17, by the architect's law of the memory after reset. -/
theorem resetMemoryIsCanonical : Obligations.ResetMemoryIsCanonical := State.reset_mem_wf

/-! ### The masked IRQ line (R19, R176) -/

/-- A step is determined by its event and by the state that has passed the boundary. -/
theorem step_congr {s t : State} (hevent : s.event = t.event) (harrive : s.arrive = t.arrive) : step s = step t := by
  simp only [step, State.ready, hevent, harrive]

theorem State.effectiveI_of_no_window {s : State} (h : s.iWindow = none) : s.effectiveI = s.p.i := by
  simp [State.effectiveI, h]

theorem State.event_of_masked_lines {s : State} {reset edge irq : Bool} (hinput : s.input = .lines reset edge irq)
    (hmasked : s.effectiveI = true) :
    s.event = if reset then .reset else if s.nmiPending || edge then .nmi else .instruction := by
  simp [State.event, hinput, hmasked]

/-- Settles O12: the two boundaries hand on the same state, and with I 1 they give it the same event. -/
theorem maskedIrqLineHasNoEffect : Obligations.MaskedIrqLineHasNoEffect := by
  intro s reset edge rest hwindow hI
  have hmasked (inputs : List Input) : ({ s with inputs := inputs } : State).effectiveI = true :=
    (State.effectiveI_of_no_window hwindow).trans hI
  refine step_congr ?event rfl
  case event =>
    rw [State.event_of_masked_lines rfl (hmasked _), State.event_of_masked_lines rfl (hmasked _)]

/-! ### The pushed P on entry to a handler (R21, R172, R182) -/

theorem State.interrupt_read (s : State) (vector : Word) (b : Bool) (k : Config.Draw) (addr : Word) :
    (s.interrupt vector b).read k addr = ((s.push16 s.pc).push (s.p.toByte b)).read k addr := by
  simp [State.interrupt, State.push16]

/-- The byte that an entry leaves on top of the stack is the pushed P. -/
theorem State.interrupt_read_top {s : State} (vector : Word) (b : Bool) (k : Config.Draw) (hwf : s.wf = true)
    (htakes : takesWrite (kindAt s.platform (stackAddr (s.sp - 2))) = true) :
    (s.interrupt vector b).read k (stackAddr ((s.interrupt vector b).sp + 1)) = statusByte s.p b := by
  have hsp : (s.push16 s.pc).sp = s.sp - 2 := by rw [State.push16_eq]; bv_omega
  have htop : (s.interrupt vector b).sp + 1 = s.sp - 2 := by rw [State.interrupt_sp]; bv_omega
  have hwf16 : (s.push16 s.pc).mem.wf = true := State.push_wf _ _ (State.push_wf _ _ hwf)
  have hplatform : (s.push16 s.pc).platform = s.platform := by rw [State.push16_eq]
  rw [State.interrupt_read, State.read_push _ _ _ _ hwf16, htop, hsp, hplatform,
    if_pos ⟨htakes, rfl⟩, Flags.toByte_eq_statusByte]

/-- The pushed `p` is on top of the stack, and its bit 4 is the Break bit `b`. -/
def BreakBitOnTop (p : Flags) (b : Bool) (k : Config.Draw) (t : State) : Prop :=
  t.read k (stackAddr (t.sp + 1)) = statusByte p b ∧ (t.read k (stackAddr (t.sp + 1))).getLsbD 4 = b

theorem breakBitOnTop_interrupt {s : State} (vector : Word) (b : Bool) (k : Config.Draw) (hwf : s.wf = true)
    (htakes : takesWrite (kindAt s.platform (stackAddr (s.sp - 2))) = true) :
    BreakBitOnTop s.p b k (s.interrupt vector b) := by
  have htop := State.interrupt_read_top vector b k hwf htakes
  exact ⟨htop, htop ▸ (statusByte_bits s.p b).2⟩

theorem step_of_event_irq {s : State} (h : s.event = .irq) : step s = .next (s.ready.interrupt vecIrq false) := by
  simp [step, h, State.irqEntry]

theorem step_of_event_nmi {s : State} (h : s.event = .nmi) :
    step s = .next ((s.ready.setNmiPending false).interrupt vecNmi false) := by
  simp [step, h, State.nmiEntry]

/-- Settles O56: BRK, IRQ and NMI all enter by `Interrupt`, with their own Break bit, at a state whose SP, P, memory
and platform are those before. -/
theorem breakBitTellsBrkFromIrq : Obligations.BreakBitTellsBrkFromIrq := by
  intro s k hwf htakes
  refine ⟨?brk, ?taken⟩
  case brk =>
    exact ⟨_, rfl, breakBitOnTop_interrupt (s := (s.advance 1).advance 1) vecIrq true k hwf htakes⟩
  case taken =>
    rintro (hirq | hnmi)
    · exact ⟨_, step_of_event_irq hirq, breakBitOnTop_interrupt (s := s.ready) vecIrq false k hwf htakes⟩
    · exact ⟨_, step_of_event_nmi hnmi,
        breakBitOnTop_interrupt (s := s.ready.setNmiPending false) vecNmi false k hwf htakes⟩

end Sys2Proof.Machine
end

section
/-! PROOFS about what instructions write and depend on (10_state.md R10, R16, R20): each instruction brought to its
operand shape and the effect of its mnemonic, and each table of the spec read off the effects. -/

namespace Sys2Proof.Machine

open Sys2Proof.Claims

/-! ### What each mnemonic does, and in which operand shape (R60 to R72) -/

/-- The mnemonic reads an operand byte, immediate or in memory, and has this effect. -/
inductive ReadEffect : Mnemonic → (Byte → State → State) → Prop
  | lda : ReadEffect .lda loadA
  | ldx : ReadEffect .ldx loadX
  | ldy : ReadEffect .ldy loadY
  | adc : ReadEffect .adc addWithCarry
  | sbc : ReadEffect .sbc subtractWithCarry
  | cmp : ReadEffect .cmp compareA
  | cpx : ReadEffect .cpx compareX
  | cpy : ReadEffect .cpy compareY
  | and : ReadEffect .and andA
  | ora : ReadEffect .ora orA
  | eor : ReadEffect .eor eorA
  | bit : ReadEffect .bit testBits

/-- The mnemonic stores this register (R83 to R85). -/
inductive StoredRegister : Mnemonic → (State → Byte) → Prop
  | sta : StoredRegister .sta State.a
  | stx : StoredRegister .stx State.x
  | sty : StoredRegister .sty State.y

/-- The mnemonic modifies A or a byte in memory by this operation (R107, R108, R124 to R127). -/
inductive ModifyEffect : Mnemonic → (Byte → Flags → Byte × Flags) → Prop
  | inc : ModifyEffect .inc incByte
  | dec : ModifyEffect .dec decByte
  | asl : ModifyEffect .asl aslByte
  | lsr : ModifyEffect .lsr lsrByte
  | rol : ModifyEffect .rol rolByte
  | ror : ModifyEffect .ror rorByte

/-- The mnemonic takes no operand and has this effect on the state one byte further (R60). -/
inductive ImpliedEffect : Mnemonic → (State → State) → Prop
  | tax : ImpliedEffect .tax (fun t => loadX t.a t)
  | tay : ImpliedEffect .tay (fun t => loadY t.a t)
  | txa : ImpliedEffect .txa (fun t => loadA t.x t)
  | tya : ImpliedEffect .tya (fun t => loadA t.y t)
  | tsx : ImpliedEffect .tsx (fun t => loadX t.sp t)
  | txs : ImpliedEffect .txs transferXToSp
  | inx : ImpliedEffect .inx (stepX incByte)
  | iny : ImpliedEffect .iny (stepY incByte)
  | dex : ImpliedEffect .dex (stepX decByte)
  | dey : ImpliedEffect .dey (stepY decByte)
  | pha : ImpliedEffect .pha pushA
  | pla : ImpliedEffect .pla pullA
  | php : ImpliedEffect .php pushP
  | plp : ImpliedEffect .plp pullP
  | rts : ImpliedEffect .rts returnFromSubroutine
  | clc : ImpliedEffect .clc (fun t => t.setP { t.p with c := false })
  | sec : ImpliedEffect .sec (fun t => t.setP { t.p with c := true })
  | cld : ImpliedEffect .cld (fun t => t.setP { t.p with d := false })
  | sed : ImpliedEffect .sed (fun t => t.setP { t.p with d := true })
  | cli : ImpliedEffect .cli (setI false)
  | sei : ImpliedEffect .sei (setI true)
  | clv : ImpliedEffect .clv (fun t => t.setP { t.p with v := false })
  | nop : ImpliedEffect .nop id
  | brk : ImpliedEffect .brk breakException
  | rti : ImpliedEffect .rti State.returnFromInterrupt

/-- The eight branches (R144). -/
inductive Branch : Mnemonic → Prop
  | bcc : Branch .bcc
  | bcs : Branch .bcs
  | beq : Branch .beq
  | bne : Branch .bne
  | bmi : Branch .bmi
  | bpl : Branch .bpl
  | bvc : Branch .bvc
  | bvs : Branch .bvs

/-- How a mnemonic with an operand runs: its operand shape, applied to what the mnemonic does. -/
inductive RunsAs : Mnemonic → Operand → (State → Result) → Prop
  | readImm {m b f} (effect : ReadEffect m f) : RunsAs m (.imm b) (readImm b f)
  | readMem {m r f} (effect : ReadEffect m f) : RunsAs m (.mem r) (readMem r f)
  | storeMem {m r v} (stored : StoredRegister m v) : RunsAs m (.mem r) (storeMem r v)
  | modifyMem {m r op} (effect : ModifyEffect m op) : RunsAs m (.mem r) (modifyMem r op)
  | modifyAcc {m op} (effect : ModifyEffect m op) : RunsAs m .acc (modifyAcc op)
  | implied {m f} (effect : ImpliedEffect m f) : RunsAs m .imp (implied f)
  | branch {m b} (isBranch : Branch m) : RunsAs m (.rel b) (branchIf (branchCondition m) b)
  | jump {w} : RunsAs .jmp (.mem (.abs w)) fun s => .next (s.setPc w)
  | jumpIndirect {w} : RunsAs .jmp (.ind w) fun s => .next (s.setPc (indirectTarget s w))
  | call {w} : RunsAs .jsr (.mem (.abs w)) fun s => .next (callSubroutine w (s.advance 3))

/-- The instruction set by operand shape and effect: what `exec` does, said once for every form of a mnemonic. -/
theorem exec_runsAs (i : Instr) : RunsAs i.mnemonic i.operand (exec i) := by
  cases i with
  | ldaImm _ => exact .readImm .lda
  | ldaZp _ | ldaZpx _ | ldaAbs _ | ldaAbx _ | ldaAby _ | ldaIzx _ | ldaIzy _ => exact .readMem .lda
  | ldxImm _ => exact .readImm .ldx
  | ldxZp _ | ldxZpy _ | ldxAbs _ | ldxAby _ => exact .readMem .ldx
  | ldyImm _ => exact .readImm .ldy
  | ldyZp _ | ldyZpx _ | ldyAbs _ | ldyAbx _ => exact .readMem .ldy
  | staZp _ | staZpx _ | staAbs _ | staAbx _ | staAby _ | staIzx _ | staIzy _ => exact .storeMem .sta
  | stxZp _ | stxZpy _ | stxAbs _ => exact .storeMem .stx
  | styZp _ | styZpx _ | styAbs _ => exact .storeMem .sty
  | tax => exact .implied .tax
  | tay => exact .implied .tay
  | txa => exact .implied .txa
  | tya => exact .implied .tya
  | tsx => exact .implied .tsx
  | txs => exact .implied .txs
  | adcImm _ => exact .readImm .adc
  | adcZp _ | adcZpx _ | adcAbs _ | adcAbx _ | adcAby _ | adcIzx _ | adcIzy _ => exact .readMem .adc
  | sbcImm _ => exact .readImm .sbc
  | sbcZp _ | sbcZpx _ | sbcAbs _ | sbcAbx _ | sbcAby _ | sbcIzx _ | sbcIzy _ => exact .readMem .sbc
  | cmpImm _ => exact .readImm .cmp
  | cmpZp _ | cmpZpx _ | cmpAbs _ | cmpAbx _ | cmpAby _ | cmpIzx _ | cmpIzy _ => exact .readMem .cmp
  | cpxImm _ => exact .readImm .cpx
  | cpxZp _ | cpxAbs _ => exact .readMem .cpx
  | cpyImm _ => exact .readImm .cpy
  | cpyZp _ | cpyAbs _ => exact .readMem .cpy
  | incZp _ | incZpx _ | incAbs _ | incAbx _ => exact .modifyMem .inc
  | decZp _ | decZpx _ | decAbs _ | decAbx _ => exact .modifyMem .dec
  | inx => exact .implied .inx
  | iny => exact .implied .iny
  | dex => exact .implied .dex
  | dey => exact .implied .dey
  | andImm _ => exact .readImm .and
  | andZp _ | andZpx _ | andAbs _ | andAbx _ | andAby _ | andIzx _ | andIzy _ => exact .readMem .and
  | oraImm _ => exact .readImm .ora
  | oraZp _ | oraZpx _ | oraAbs _ | oraAbx _ | oraAby _ | oraIzx _ | oraIzy _ => exact .readMem .ora
  | eorImm _ => exact .readImm .eor
  | eorZp _ | eorZpx _ | eorAbs _ | eorAbx _ | eorAby _ | eorIzx _ | eorIzy _ => exact .readMem .eor
  | bitZp _ | bitAbs _ => exact .readMem .bit
  | aslAcc => exact .modifyAcc .asl
  | aslZp _ | aslZpx _ | aslAbs _ | aslAbx _ => exact .modifyMem .asl
  | lsrAcc => exact .modifyAcc .lsr
  | lsrZp _ | lsrZpx _ | lsrAbs _ | lsrAbx _ => exact .modifyMem .lsr
  | rolAcc => exact .modifyAcc .rol
  | rolZp _ | rolZpx _ | rolAbs _ | rolAbx _ => exact .modifyMem .rol
  | rorAcc => exact .modifyAcc .ror
  | rorZp _ | rorZpx _ | rorAbs _ | rorAbx _ => exact .modifyMem .ror
  | pha => exact .implied .pha
  | pla => exact .implied .pla
  | php => exact .implied .php
  | plp => exact .implied .plp
  | jmpAbs _ => exact .jump
  | jmpInd _ => exact .jumpIndirect
  | jsr _ => exact .call
  | rts => exact .implied .rts
  | bcc _ => exact .branch .bcc
  | bcs _ => exact .branch .bcs
  | beq _ => exact .branch .beq
  | bne _ => exact .branch .bne
  | bmi _ => exact .branch .bmi
  | bpl _ => exact .branch .bpl
  | bvc _ => exact .branch .bvc
  | bvs _ => exact .branch .bvs
  | clc => exact .implied .clc
  | sec => exact .implied .sec
  | cld => exact .implied .cld
  | sed => exact .implied .sed
  | cli => exact .implied .cli
  | sei => exact .implied .sei
  | clv => exact .implied .clv
  | nop => exact .implied .nop
  | brk => exact .implied .brk
  | rti => exact .implied .rti

theorem Answers.of_eq_next {P : State → Prop} {r : Result} {t : State} (h : Answers P r) (hr : r = .next t) : P t := by
  obtain ⟨u, hu, hP⟩ := h
  cases hr.symm.trans hu
  exact hP

/-! The states that the operand shapes answer. -/

theorem readMem_eq (r : MemRef) (f : Byte → State → State) (s : State) :
    readMem r f s = .next (f (s.load r) (s.advance r.mode.length)) := by
  simp only [readMem, State.advance_load]

theorem modifyAcc_eq (op : Byte → Flags → Byte × Flags) (s : State) :
    modifyAcc op s =
      .next { s with a := (op s.a s.p).1, p := (op s.a s.p).2, pc := s.pc + BitVec.ofNat 16 1 } := rfl

theorem StoredRegister.storeMem_eq {m : Mnemonic} {v : State → Byte} (h : StoredRegister m v) (r : MemRef) (s : State) :
    storeMem r v s =
      .next { (s.write (effectiveAddr r s) (v s)) with pc := s.pc + BitVec.ofNat 16 r.mode.length } := by
  apply Machine.storeMem_eq
  cases h with
  | sta | stx | sty => rfl

/-! ### Which instruction writes which flag (R16) -/

/-- R16's table: the mnemonics that write N and Z. -/
def nzWriters : List Mnemonic :=
  [.lda, .ldx, .ldy, .tax, .tay, .txa, .tya, .tsx, .pla, .adc, .sbc, .and, .ora, .eor, .asl, .lsr, .rol, .ror, .inc,
    .dec, .inx, .iny, .dex, .dey, .cmp, .cpx, .cpy, .bit, .plp, .rti]

/-- R16's table: those that write C. -/
def cWriters : List Mnemonic := [.adc, .sbc, .asl, .lsr, .rol, .ror, .cmp, .cpx, .cpy, .clc, .sec, .plp, .rti]

/-- R16's table: those that write V. -/
def vWriters : List Mnemonic := [.adc, .sbc, .bit, .clv, .plp, .rti]

/-- R16's table: those that write D, but for BRK, which does so where the part clears D (R172). -/
def dWriters : List Mnemonic := [.cld, .sed, .plp, .rti]

/-- R16's table: those that write I. -/
def iWriters : List Mnemonic := [.cli, .sei, .plp, .rti, .brk]

/-- From the flags `p` the mnemonic makes `q` and writes none but its flags of R16's table; `clearsD` is the parameter
of R172. A row that a proof does not give is the row of a flag that is as it was. -/
structure FlagRows (m : Mnemonic) (clearsD : Bool) (p q : Flags) : Prop where
  nz : m ∉ nzWriters → q.n = p.n ∧ q.z = p.z := by exact fun _ => ⟨rfl, rfl⟩
  c : m ∉ cWriters → q.c = p.c := by exact fun _ => rfl
  v : m ∉ vWriters → q.v = p.v := by exact fun _ => rfl
  d : m ∉ dWriters → (m = .brk → clearsD = false) → q.d = p.d := by exact fun _ _ => rfl
  i : m ∉ iWriters → q.i = p.i := by exact fun _ => rfl

theorem FlagRows.of_eq {m : Mnemonic} {clearsD : Bool} {p q : Flags} (h : q = p) : FlagRows m clearsD p q := by
  subst h
  exact {}

theorem ReadEffect.flagRows {m : Mnemonic} {f : Byte → State → State} (h : ReadEffect m f) (clearsD : Bool) (v : Byte)
    (s : State) : FlagRows m clearsD s.p (f v s).p := by
  cases h with
  | lda | ldx | ldy | and | ora | eor => exact { nz := absurd (by decide) }
  | cmp | cpx | cpy => exact { nz := absurd (by decide), c := absurd (by decide) }
  | bit => exact { nz := absurd (by decide), v := absurd (by decide) }
  | adc =>
    obtain ⟨hd, hi⟩ := addWithCarry_d_i v s
    exact { nz := absurd (by decide), c := absurd (by decide), v := absurd (by decide), d := fun _ _ => hd
            i := fun _ => hi }
  | sbc =>
    obtain ⟨hd, hi⟩ := subtractWithCarry_d_i v s
    exact { nz := absurd (by decide), c := absurd (by decide), v := absurd (by decide), d := fun _ _ => hd
            i := fun _ => hi }

theorem ModifyEffect.flagRows {m : Mnemonic} {op : Byte → Flags → Byte × Flags} (h : ModifyEffect m op)
    (clearsD : Bool) (v : Byte) (p : Flags) : FlagRows m clearsD p (op v p).2 := by
  cases h with
  | inc | dec => exact { nz := absurd (by decide) }
  | asl | lsr | rol | ror => exact { nz := absurd (by decide), c := absurd (by decide) }

theorem ImpliedEffect.flagRows {m : Mnemonic} {f : State → State} (h : ImpliedEffect m f) (s : State) :
    FlagRows m s.params.clearDOnInterrupt s.p (f s).p := by
  cases h with
  | tax | tay | txa | tya | tsx | inx | iny | dex | dey | pla => exact { nz := absurd (by decide) }
  | pha | php => exact .of_eq (State.push_p s _)
  | txs | rts | nop => exact .of_eq rfl
  | clc | sec => exact { c := absurd (by decide) }
  | cld | sed => exact { d := absurd (by decide) }
  | cli | sei => exact { i := absurd (by decide) }
  | clv => exact { v := absurd (by decide) }
  | plp | rti =>
    exact { nz := absurd (by decide), c := absurd (by decide), v := absurd (by decide), d := absurd (by decide)
            i := absurd (by decide) }
  | brk =>
    have hp : (breakException s).p = s.p.entered s.params.clearDOnInterrupt := State.interrupt_p _ _ _
    rw [hp]
    exact { d := fun _ hclears => by rw [hclears rfl]; rfl, i := absurd (by decide) }

theorem RunsAs.flagRows {m : Mnemonic} {o : Operand} {run : State → Result} (h : RunsAs m o run) (s : State) :
    Answers (fun t => FlagRows m s.params.clearDOnInterrupt s.p t.p) (run s) := by
  cases h with
  | readImm effect => exact ⟨_, rfl, effect.flagRows _ _ (s.advance 2)⟩
  | readMem effect => exact ⟨_, readMem_eq _ _ s, effect.flagRows _ _ (s.advance _)⟩
  | storeMem stored => exact ⟨_, stored.storeMem_eq _ s, .of_eq (State.write_p s _ _)⟩
  | modifyMem effect => exact ⟨_, modifyMem_eq _ _ s, effect.flagRows _ _ s.p⟩
  | modifyAcc effect => exact ⟨_, modifyAcc_eq _ s, effect.flagRows _ _ s.p⟩
  | implied effect => exact ⟨_, rfl, effect.flagRows (s.advance 1)⟩
  | branch isBranch => exact ⟨_, branchIf_eq _ _ s, .of_eq rfl⟩
  | jump | jumpIndirect => exact ⟨_, rfl, .of_eq rfl⟩
  | call => exact ⟨_, rfl, .of_eq (by rw [callSubroutine_eq]; rfl)⟩

/-- Settles O57: each effect writes the flags of its mnemonic's rows, and its operand shape writes no flag beside. -/
theorem flagWritersTable : Obligations.FlagWritersTable := by
  intro i s t hexec
  obtain ⟨nz, c, v, d, i⟩ := ((exec_runsAs i).flagRows s).of_eq_next hexec
  exact ⟨nz, c, v, d, i⟩

/-! ### Which instruction writes which register (R10, R140) -/

/-- R10's table: the mnemonics that write A; the shifts write it where A is their operand. -/
def aWriters : List Mnemonic := [.lda, .txa, .tya, .pla, .adc, .sbc, .and, .ora, .eor]

/-- R10's table: those that write X. -/
def xWriters : List Mnemonic := [.ldx, .tax, .tsx, .inx, .dex]

/-- R10's table: those that write Y. -/
def yWriters : List Mnemonic := [.ldy, .tay, .iny, .dey]

/-- R10's table: those that write SP. -/
def spWriters : List Mnemonic := [.txs, .pha, .php, .pla, .plp, .jsr, .rts, .brk, .rti]

/-- R140: those that write `pc` beyond the advance past the instruction. -/
def pcWriters : List Mnemonic := [.jmp, .jsr, .rts, .rti, .brk, .bcc, .bcs, .beq, .bne, .bmi, .bpl, .bvc, .bvs]

theorem Branch.mem_pcWriters {m : Mnemonic} (h : Branch m) : m ∈ pcWriters := by
  cases h <;> decide

/-- From the state `s`, whose `pc` is past the instruction, the mnemonic with this operand makes `t` and writes none but
its registers of R10's table. A row that a proof does not give is the row of a register that is as it was. -/
structure RegisterRows (m : Mnemonic) (o : Operand) (s t : State) : Prop where
  a : m ∉ aWriters → o ≠ .acc → t.a = s.a := by exact fun _ _ => rfl
  x : m ∉ xWriters → t.x = s.x := by exact fun _ => rfl
  y : m ∉ yWriters → t.y = s.y := by exact fun _ => rfl
  sp : m ∉ spWriters → t.sp = s.sp := by exact fun _ => rfl
  pc : m ∉ pcWriters → t.pc = s.pc := by exact fun _ => rfl

theorem ReadEffect.registerRows {m : Mnemonic} {f : Byte → State → State} (h : ReadEffect m f) (o : Operand) (v : Byte)
    (s : State) : RegisterRows m o s (f v s) := by
  cases h with
  | lda | and | ora | eor => exact { a := absurd (by decide) }
  | adc =>
    rw [addWithCarry_eq]
    exact { a := absurd (by decide) }
  | sbc =>
    rw [subtractWithCarry_eq]
    exact { a := absurd (by decide) }
  | ldx => exact { x := absurd (by decide) }
  | ldy => exact { y := absurd (by decide) }
  | cmp | cpx | cpy | bit => exact {}

theorem ImpliedEffect.registerRows {m : Mnemonic} {f : State → State} (h : ImpliedEffect m f) (o : Operand)
    (s : State) : RegisterRows m o s (f s) := by
  cases h with
  | txa | tya => exact { a := absurd (by decide) }
  | tax | tsx | inx | dex => exact { x := absurd (by decide) }
  | tay | iny | dey => exact { y := absurd (by decide) }
  | txs | plp => exact { sp := absurd (by decide) }
  | pha =>
    rw [pushA, State.push_eq]
    exact { sp := absurd (by decide) }
  | php =>
    rw [pushP, State.push_eq]
    exact { sp := absurd (by decide) }
  | pla => exact { a := absurd (by decide), sp := absurd (by decide) }
  | rts | rti => exact { sp := absurd (by decide), pc := absurd (by decide) }
  | brk =>
    rw [breakException, State.interrupt_eq]
    exact { sp := absurd (by decide), pc := absurd (by decide) }
  | clc | sec | cld | sed | cli | sei | clv | nop => exact {}

theorem RunsAs.registerRows {m : Mnemonic} {o : Operand} {run : State → Result} (h : RunsAs m o run) (s : State) :
    Answers (RegisterRows m o (s.advance o.mode.length)) (run s) := by
  cases h with
  | readImm effect => exact ⟨_, rfl, effect.registerRows _ _ _⟩
  | readMem effect => exact ⟨_, readMem_eq _ _ s, effect.registerRows _ _ _⟩
  | storeMem stored =>
    refine ⟨_, stored.storeMem_eq _ s, ?_⟩
    rw [State.write_eq]
    exact {}
  | modifyMem effect =>
    refine ⟨_, modifyMem_eq _ _ s, ?_⟩
    rw [State.write_eq]
    exact {}
  | modifyAcc effect => exact ⟨_, modifyAcc_eq _ s, { a := fun _ hacc => absurd rfl hacc }⟩
  | implied effect => exact ⟨_, rfl, effect.registerRows _ _⟩
  | branch isBranch => exact ⟨_, branchIf_eq _ _ s, { pc := absurd isBranch.mem_pcWriters }⟩
  | jump | jumpIndirect => exact ⟨_, rfl, { pc := absurd (by decide) }⟩
  | call =>
    refine ⟨_, rfl, ?_⟩
    rw [callSubroutine_eq]
    exact { sp := absurd (by decide), pc := absurd (by decide) }

/-- Settles O58: each operand shape moves `pc` past the instruction, and the effect writes the registers of its
mnemonic's rows. -/
theorem registerWritersTable : Obligations.RegisterWritersTable := by
  intro i s t hexec
  obtain ⟨a, x, y, sp, pc⟩ := ((exec_runsAs i).registerRows s).of_eq_next hexec
  exact ⟨a, x, y, sp, pc⟩

/-! ### Which instruction depends on D (R20)

Every operation but those of `dUsers` commutes with a change of D: `withD` moves through it. -/

/-- The mnemonics that compute with D, push it, load it or write it. -/
def dUsers : List Mnemonic := [.adc, .sbc, .php, .brk, .cld, .sed, .plp, .rti]

@[simp] theorem withD_p (s : State) (d : Bool) : (withD s d).p = { s.p with d := d } := rfl
@[simp] theorem withD_a (s : State) (d : Bool) : (withD s d).a = s.a := rfl
@[simp] theorem withD_sp (s : State) (d : Bool) : (withD s d).sp = s.sp := rfl
@[simp] theorem withD_pc (s : State) (d : Bool) : (withD s d).pc = s.pc := rfl
@[simp] theorem withD_load (s : State) (d : Bool) (r : MemRef) : (withD s d).load r = s.load r := by
  cases r <;> rfl
@[simp] theorem effectiveAddr_withD (s : State) (d : Bool) (r : MemRef) :
    effectiveAddr r (withD s d) = effectiveAddr r s := by
  cases r <;> rfl

theorem withD_advance (s : State) (d : Bool) (n : Nat) : (withD s d).advance n = withD (s.advance n) d := rfl

theorem withD_write (s : State) (d : Bool) (addr : Word) (v : Byte) :
    (withD s d).write addr v = withD (s.write addr v) d := by
  simp only [State.write, apply_ite (withD · d)]
  rfl

theorem withD_push (s : State) (d : Bool) (v : Byte) : (withD s d).push v = withD (s.push v) d := by
  rw [State.push, withD_sp, withD_write]
  rfl

theorem withD_callSubroutine (w : Word) (s : State) (d : Bool) :
    callSubroutine w (withD s d) = withD (callSubroutine w s) d := by
  rw [callSubroutine, State.push16, withD_pc, withD_push, withD_push]
  rfl

theorem branchCondition_d (m : Mnemonic) (p : Flags) (d : Bool) :
    branchCondition m { p with d := d } = branchCondition m p := by
  cases m <;> rfl

theorem ReadEffect.comm_withD {m : Mnemonic} {f : Byte → State → State} (h : ReadEffect m f) (hm : m ∉ dUsers)
    (v : Byte) (s : State) (d : Bool) : f v (withD s d) = withD (f v s) d := by
  cases h with
  | adc | sbc => exact absurd (by decide) hm
  | lda | ldx | ldy | cmp | cpx | cpy | and | ora | eor | bit => rfl

theorem StoredRegister.apply_withD {m : Mnemonic} {v : State → Byte} (h : StoredRegister m v) (s : State) (d : Bool) :
    v (withD s d) = v s := by
  cases h with
  | sta | stx | sty => rfl

theorem ModifyEffect.comm_d {m : Mnemonic} {op : Byte → Flags → Byte × Flags} (h : ModifyEffect m op) (v : Byte)
    (p : Flags) (d : Bool) : op v { p with d := d } = ((op v p).1, { (op v p).2 with d := d }) := by
  cases h with
  | inc | dec | asl | lsr | rol | ror => rfl

theorem ImpliedEffect.comm_withD {m : Mnemonic} {f : State → State} (h : ImpliedEffect m f) (hm : m ∉ dUsers)
    (s : State) (d : Bool) : f (withD s d) = withD (f s) d := by
  cases h with
  | php | brk | cld | sed | plp | rti => exact absurd (by decide) hm
  | pha => exact withD_push s d s.a
  | tax | tay | txa | tya | tsx | txs | inx | iny | dex | dey | pla | rts | clc | sec | cli | sei | clv | nop => rfl

theorem RunsAs.comm_withD {m : Mnemonic} {o : Operand} {run : State → Result} (h : RunsAs m o run) (hm : m ∉ dUsers)
    (s : State) (d : Bool) : Answers (fun t => run (withD s d) = .next (withD t d)) (run s) := by
  cases h with
  | readImm effect => exact ⟨_, rfl, congrArg _ (effect.comm_withD hm _ (s.advance 2) d)⟩
  | readMem effect =>
    refine ⟨_, readMem_eq _ _ s, ?_⟩
    rw [readMem_eq, withD_load, withD_advance, effect.comm_withD hm]
  | storeMem stored =>
    refine ⟨_, stored.storeMem_eq _ s, ?_⟩
    rw [stored.storeMem_eq, effectiveAddr_withD, stored.apply_withD, withD_write]
    rfl
  | modifyMem effect =>
    refine ⟨_, modifyMem_eq _ _ s, ?_⟩
    rw [modifyMem_eq, effectiveAddr_withD, withD_load, withD_p, effect.comm_d, withD_write]
    rfl
  | modifyAcc effect =>
    refine ⟨_, modifyAcc_eq _ s, ?_⟩
    rw [modifyAcc_eq, withD_a, withD_p, effect.comm_d]
    rfl
  | implied effect => exact ⟨_, rfl, congrArg _ (effect.comm_withD hm (s.advance 1) d)⟩
  | branch isBranch =>
    refine ⟨_, branchIf_eq _ _ s, ?_⟩
    rw [branchIf_eq, withD_p, branchCondition_d]
    rfl
  | jump | jumpIndirect => exact ⟨_, rfl, rfl⟩
  | call => exact ⟨_, rfl, congrArg _ (withD_callSubroutine _ (s.advance 3) d)⟩

/-- Settles O59: every operand shape commutes with a change of D, given that the mnemonic's effect does. -/
theorem onlyAdcAndSbcObeyDecimalMode : Obligations.OnlyAdcAndSbcObeyDecimalMode := by
  intro i s t d hm hexec
  exact ((exec_runsAs i).comm_withD hm s d).of_eq_next hexec

end Sys2Proof.Machine
end

section
/-! PROOFS about memory (20_memory.md R30 to R48): its canonical form, what a write leaves as it was, the page-zero
pointer, and that an instruction changes memory by the writes of its list of accesses alone. -/

namespace Sys2Proof.Machine

open Sys2Proof.Claims

/-! ### The canonical form (R30) -/

theorem State.wf_keptByWrites : KeptByWrites (fun s : State => s.wf = true) where
  after_setA _ hs := hs
  after_setX _ hs := hs
  after_setY _ hs := hs
  after_setSp _ hs := hs
  after_setPc _ hs := hs
  after_setP _ hs := hs
  after_setNmiPending _ hs := hs
  after_setIWindow _ hs := hs
  after_setByte addr v hs := Memory.write_wf _ addr v hs

/-- Settles O16: the only write of the machine that touches memory is that of one byte, which keeps the canonical form,
and passing the boundary leaves memory as it is. -/
theorem everyStepKeepsMemoryCanonical : Obligations.EveryStepKeepsMemoryCanonical := by
  intro s t hwf hstep
  have harrive : s.arrive.wf = true := hwf
  exact State.wf_keptByWrites.after_step hstep harrive

/-! ### One write (R32, R43) -/

theorem State.write_storedAt {s : State} (addr : Word) (v : Byte) (hwf : s.wf = true) :
    StoredAt s (s.write addr v) [(addr, v)] :=
  fun k b => State.read_write s addr b v k hwf

/-- Settles O21: a write changes no field but memory, and there the law of reads after a write holds. -/
theorem writeChangesItsByteOnly : Obligations.WriteChangesItsByteOnly := by
  intro s addr v hwf
  refine ⟨?frame, State.write_storedAt addr v hwf⟩
  case frame => rw [State.write_eq]

/-! ### The page-zero pointer (R35) -/

@[simp] theorem zext16_toNat (b : Byte) : (zext16 b).toNat = b.toNat :=
  BitVec.toNat_setWidth_of_le (by decide)

/-- Settles O22: the two addresses are those of the bytes `zp` and `zp + 1`, whose sum is modulo 256. -/
theorem pageZeroPointerWraps : Obligations.PageZeroPointerWraps := by
  intro s zp
  refine ⟨zext16 zp, zext16 (zp + 1), zext16_toNat zp, ?high, rfl⟩
  case high => rw [zext16_toNat, BitVec.toNat_add]; rfl

/-! ### Memory after a list of accesses (R43) -/

@[simp] theorem Access.apply_read (s : State) (addr : Word) : Access.apply s (.read addr) = s := rfl

@[simp] theorem Access.apply_write (s : State) (addr : Word) (v : Byte) :
    Access.apply s (.write addr v) = s.write addr v := rfl

@[simp] theorem Access.apply_platform (s : State) (access : Access) : (access.apply s).platform = s.platform := by
  cases access with
  | read addr => rfl
  | write addr v => exact State.write_platform s addr v

/-- The memory that the accesses, in their order, make of the memory of `s`. -/
def memAfter (accesses : List Access) (s : State) : Memory := (accesses.foldl Access.apply s).mem

@[simp] theorem memAfter_nil (s : State) : memAfter [] s = s.mem := rfl

@[simp] theorem memAfter_read (addr : Word) (rest : List Access) (s : State) :
    memAfter (.read addr :: rest) s = memAfter rest s := rfl

@[simp] theorem memAfter_write (addr : Word) (v : Byte) (rest : List Access) (s : State) :
    memAfter (.write addr v :: rest) s = memAfter rest (s.write addr v) := rfl

@[simp] theorem memAfter_addressReads (r : MemRef) (rest : List Access) (s t : State) :
    memAfter (addressReads r s ++ rest) t = memAfter rest t := by
  cases r <;> rfl

/-- Memory and the memory map alone say what accesses make of memory, and no register does. -/
theorem memAfter_congr {accesses : List Access} {s t : State} (hmem : s.mem = t.mem)
    (hplatform : s.platform = t.platform) : memAfter accesses s = memAfter accesses t := by
  induction accesses generalizing s t with
  | nil => exact hmem
  | cons access rest ih =>
    cases access with
    | read addr => exact ih hmem hplatform
    | write addr v =>
      refine ih ?mem (by simpa using hplatform)
      case mem => rw [Access.apply_write, Access.apply_write, State.write_mem, State.write_mem, hmem, hplatform]

@[simp] theorem memAfter_advance (accesses : List Access) (s : State) (n : Nat) :
    memAfter accesses (s.advance n) = memAfter accesses s := memAfter_congr rfl rfl

/-! ### The stack's writes (R130, R172) -/

theorem State.push_mem_eq_memAfter (s : State) (v : Byte) :
    (s.push v).mem = memAfter [.write (stackAddr s.sp) v] s := State.push_mem s v

theorem State.push16_mem_eq_memAfter (s : State) (w : Word) :
    (s.push16 w).mem = memAfter (push16Accesses w s) s := by
  rw [State.push16, State.push_mem_eq_memAfter, State.push_sp]
  exact memAfter_congr (State.push_mem s _) (by simp)

theorem State.push16_sp (s : State) (w : Word) : (s.push16 w).sp = s.sp - 2 := by
  rw [State.push16_eq]
  bv_omega

theorem State.interrupt_mem_eq_memAfter (s : State) (vector : Word) (b : Bool) :
    (s.interrupt vector b).mem = memAfter (interruptAccesses s.pc vector b s) s := by
  rw [State.interrupt_mem, State.push_mem_eq_memAfter, State.push16_sp]
  refine memAfter_congr (State.push16_mem_eq_memAfter s s.pc) ?platform
  case platform => simp [State.push16]

theorem breakException_mem (s : State) :
    (breakException (s.advance 1)).mem = memAfter (interruptAccesses (s.pc + 2) vecIrq true s) s := by
  have hpc : ((s.advance 1).advance 1).pc = s.pc + 2 := by simp only [State.advance_pc]; bv_omega
  rw [breakException, State.interrupt_mem_eq_memAfter, hpc, memAfter_advance, memAfter_advance]
  rfl

theorem callSubroutine_mem (w : Word) (s : State) :
    (callSubroutine w (s.advance 3)).mem = memAfter (push16Accesses (s.pc + 2) s) s := by
  have hpc : (s.advance 3).pc - 1 = s.pc + 2 := by simp only [State.advance_pc]; bv_omega
  rw [callSubroutine_eq, State.push16_mem_eq_memAfter, hpc, memAfter_advance]
  rfl

/-! ### The list of accesses of each operand shape (R48) -/

theorem dataAccesses_of_reads {i : Instr} {r : MemRef} (ho : i.operand = .mem r) (hu : memUse i.mnemonic = .reads)
    (s : State) : dataAccesses i s = addressReads r s ++ [.read (effectiveAddr r s)] := by
  simp [dataAccesses, ho, hu]

theorem dataAccesses_of_stores {i : Instr} {r : MemRef} (ho : i.operand = .mem r) (hu : memUse i.mnemonic = .stores)
    (s : State) :
    dataAccesses i s = addressReads r s ++ [.write (effectiveAddr r s) (writtenByte i.mnemonic 0x00 s)] := by
  simp [dataAccesses, ho, hu]

theorem dataAccesses_of_modifies {i : Instr} {r : MemRef} (ho : i.operand = .mem r)
    (hu : memUse i.mnemonic = .modifies) (s : State) :
    dataAccesses i s = addressReads r s ++
      [.read (effectiveAddr r s), .write (effectiveAddr r s) (writtenByte i.mnemonic (s.load r) s)] := by
  simp [dataAccesses, ho, hu]

theorem dataAccesses_of_implied {i : Instr} (ho : i.operand = .imp) (s : State) :
    dataAccesses i s = impliedAccesses i.mnemonic s := by
  simp [dataAccesses, ho]

/-! ### What each effect does to memory -/

theorem ReadEffect.memUse_eq {m : Mnemonic} {f : Byte → State → State} (h : ReadEffect m f) : memUse m = .reads := by
  cases h <;> rfl

theorem ReadEffect.mem_eq {m : Mnemonic} {f : Byte → State → State} (h : ReadEffect m f) (v : Byte) (s : State) :
    (f v s).mem = s.mem := by
  cases h with
  | lda | ldx | ldy | cmp | cpx | cpy | and | ora | eor | bit => rfl
  | adc => rw [addWithCarry_eq]
  | sbc => rw [subtractWithCarry_eq]

theorem StoredRegister.memUse_eq {m : Mnemonic} {v : State → Byte} (h : StoredRegister m v) : memUse m = .stores := by
  cases h <;> rfl

theorem StoredRegister.writtenByte_eq {m : Mnemonic} {v : State → Byte} (h : StoredRegister m v) (old : Byte)
    (s : State) : writtenByte m old s = v s := by
  cases h <;> rfl

theorem ModifyEffect.memUse_eq {m : Mnemonic} {op : Byte → Flags → Byte × Flags} (h : ModifyEffect m op) :
    memUse m = .modifies := by
  cases h <;> rfl

theorem ModifyEffect.writtenByte_eq {m : Mnemonic} {op : Byte → Flags → Byte × Flags} (h : ModifyEffect m op)
    (old : Byte) (s : State) : writtenByte m old s = (op old s.p).1 := by
  cases h <;> rfl

theorem ImpliedEffect.mem_eq {m : Mnemonic} {f : State → State} (h : ImpliedEffect m f) (s : State) :
    (f (s.advance 1)).mem = memAfter (impliedAccesses m s) s := by
  cases h with
  | pha | php => exact (State.push_mem_eq_memAfter _ _).trans (memAfter_advance _ s 1)
  | brk => exact breakException_mem s
  | tax | tay | txa | tya | tsx | txs | inx | iny | dex | dey | pla | plp | rts | rti | clc | sec | cld | sed | cli
  | sei | clv | nop => rfl

/-- An instruction that runs in an operand shape changes memory by the writes of its list of accesses. -/
theorem RunsAs.mem_eq {i : Instr} {m : Mnemonic} {o : Operand} {run : State → Result} (h : RunsAs m o run)
    (hm : i.mnemonic = m) (ho : i.operand = o) (s : State) :
    Answers (fun t => t.mem = memAfter (dataAccesses i s) s) (run s) := by
  cases h with
  | readImm effect =>
    exact ⟨_, rfl, by simp [dataAccesses, ho, effect.mem_eq]⟩
  | readMem effect =>
    refine ⟨_, rfl, ?_⟩
    simp [dataAccesses_of_reads ho (hm ▸ effect.memUse_eq), effect.mem_eq]
  | storeMem stored =>
    refine ⟨_, stored.storeMem_eq _ s, ?_⟩
    simp [dataAccesses_of_stores ho (hm ▸ stored.memUse_eq), hm, stored.writtenByte_eq]
  | modifyMem effect =>
    refine ⟨_, modifyMem_eq _ _ s, ?_⟩
    simp [dataAccesses_of_modifies ho (hm ▸ effect.memUse_eq), hm, effect.writtenByte_eq]
  | modifyAcc effect =>
    exact ⟨_, rfl, by simp [dataAccesses, ho]⟩
  | implied effect =>
    exact ⟨_, rfl, by rw [dataAccesses_of_implied ho, hm, ← effect.mem_eq]⟩
  | branch isBranch =>
    exact ⟨_, branchIf_eq _ _ s, by simp [dataAccesses, ho]⟩
  | jump =>
    exact ⟨_, rfl, by simp [dataAccesses, ho, hm, memUse]⟩
  | jumpIndirect =>
    exact ⟨_, rfl, by simp [dataAccesses, ho]⟩
  | call =>
    exact ⟨_, rfl, by simp [dataAccesses, ho, hm, memUse, callSubroutine_mem]⟩

/-- Settles O60: each instruction runs in its operand shape, and each shape's writes are those of the list. -/
theorem memoryChangesByListedWritesOnly : Obligations.MemoryChangesByListedWritesOnly := by
  intro i s t hexec
  exact ((exec_runsAs i).mem_eq rfl rfl s).of_eq_next hexec

end Sys2Proof.Machine
end

section
/-! PROOFS about encoding and decoding (30_encoding.md R50 to R75): each instruction's place in the grid of opcodes,
from which the decoder and the encoder are inverse to each other, the number of valid opcodes, and the fetch of one
that is not. -/

namespace Sys2Proof

/-! ### Words as two bytes, low byte first (R33) -/

theorem lo8_toNat (w : Word) : (lo8 w).toNat = w.toNat % 256 := BitVec.toNat_setWidth 8 w

theorem hi8_toNat (w : Word) : (hi8 w).toNat = w.toNat / 256 := by
  rw [hi8, BitVec.toNat_setWidth, BitVec.toNat_ushiftRight, Nat.shiftRight_eq_div_pow]
  omega

theorem cat_toNat (h l : Byte) : (cat h l).toNat = 256 * h.toNat + l.toNat := by
  have happend : (cat h l).toNat = h.toNat <<< 8 ||| l.toNat := BitVec.toNat_append h l
  rw [happend, ← Nat.shiftLeft_add_eq_or_of_lt l.isLt, Nat.shiftLeft_eq, Nat.mul_comm]

theorem cat_hi8_lo8 (w : Word) : cat (hi8 w) (lo8 w) = w := by
  apply BitVec.eq_of_toNat_eq
  rw [cat_toNat, hi8_toNat, lo8_toNat, Nat.div_add_mod]

theorem wordBytes_cat (h l : Byte) : wordBytes (cat h l) = [l, h] := by
  have hlow : lo8 (cat h l) = l := by
    apply BitVec.eq_of_toNat_eq
    rw [lo8_toNat, cat_toNat]
    omega
  have hhigh : hi8 (cat h l) = h := by
    apply BitVec.eq_of_toNat_eq
    rw [hi8_toNat, cat_toNat]
    omega
  rw [wordBytes, hlow, hhigh]

/-! ### What a form makes of its operand bytes (R51) -/

/-- The form, with these operand bytes after the opcode, is the instruction. -/
inductive Form.Makes : Form → List Byte → Instr → Prop
  | f1 (i : Instr) : Makes (.f1 i) [] i
  | f2 (k : Byte → Instr) (b : Byte) : Makes (.f2 k) [b] (k b)
  | f3 (k : Word → Instr) (w : Word) : Makes (.f3 k) (wordBytes w) (k w)

/-- The decoder reads an opcode, the operand bytes of the opcode's form, and nothing of what follows (R50). -/
theorem decode_eq_ok_iff {bytes rest : List Byte} {i : Instr} :
    decode bytes = .ok (i, rest) ↔
      ∃ op f operands, lookup op = some f ∧ f.Makes operands i ∧ bytes = op :: operands ++ rest := by
  constructor
  · intro h
    rcases bytes with _ | ⟨op, tail⟩
    · cases h
    · rcases hlookup : lookup op with _ | ⟨i'⟩ | ⟨k⟩ | ⟨k⟩ <;> simp only [decode, hlookup] at h
      case none => cases h
      case some.f1 =>
        cases h
        exact ⟨op, _, [], hlookup, .f1 i, rfl⟩
      case some.f2 =>
        rcases tail with _ | ⟨b, tail⟩ <;> cases h
        exact ⟨op, _, [b], hlookup, .f2 k b, rfl⟩
      case some.f3 =>
        rcases tail with _ | ⟨lo, _ | ⟨hi, tail⟩⟩ <;> cases h
        exact ⟨op, _, _, hlookup, .f3 k (cat hi lo), by rw [wordBytes_cat]; rfl⟩
  · rintro ⟨op, f, operands, hlookup, hmakes, rfl⟩
    cases hmakes with
    | f1 => simp [decode, hlookup]
    | f2 => simp [decode, hlookup]
    | f3 => simp [decode, hlookup, wordBytes, cat_hi8_lo8]

/-! ### The cells of the grid (R75) -/

/-- The opcode's cell of the grid holds the form, and what the form makes is encoded with that opcode. -/
structure GridCell (op : Byte) (f : Form) : Prop where
  lookup_eq : lookup op = some f
  encode_eq : ∀ {operands : List Byte} {i : Instr}, f.Makes operands i → encode i = op :: operands

theorem GridCell.f1 {op : Byte} {i : Instr} (hencode : encode i = [op]) (hlookup : lookup op = some (.f1 i)) :
    GridCell op (.f1 i) :=
  ⟨hlookup, fun | .f1 _ => hencode⟩

theorem GridCell.f2 {op : Byte} {k : Byte → Instr} (hencode : ∀ b, encode (k b) = [op, b])
    (hlookup : lookup op = some (.f2 k)) : GridCell op (.f2 k) :=
  ⟨hlookup, fun | .f2 _ b => hencode b⟩

theorem GridCell.f3 {op : Byte} {k : Word → Instr} (hencode : ∀ w, encode (k w) = op :: wordBytes w)
    (hlookup : lookup op = some (.f3 k)) : GridCell op (.f3 k) :=
  ⟨hlookup, fun | .f3 _ w => hencode w⟩

/-- Each of the 151 instructions has its cell, by the format it is encoded in. -/
theorem Instr.gridCell (i : Instr) : ∃ op f operands, GridCell op f ∧ f.Makes operands i := by
  cases i with
  | tax | tay | txa | tya | tsx | txs | inx | iny | dex | dey | aslAcc | lsrAcc | rolAcc | rorAcc | pha | pla | php
  | plp | rts | clc | sec | cld | sed | cli | sei | clv | nop | brk | rti =>
    exact ⟨_, _, _, .f1 rfl rfl, .f1 _⟩
  | ldaImm _ | ldaZp _ | ldaZpx _ | ldaIzx _ | ldaIzy _ | ldxImm _ | ldxZp _ | ldxZpy _ | ldyImm _ | ldyZp _
  | ldyZpx _ | staZp _ | staZpx _ | staIzx _ | staIzy _ | stxZp _ | stxZpy _ | styZp _ | styZpx _ | adcImm _
  | adcZp _ | adcZpx _ | adcIzx _ | adcIzy _ | sbcImm _ | sbcZp _ | sbcZpx _ | sbcIzx _ | sbcIzy _ | cmpImm _
  | cmpZp _ | cmpZpx _ | cmpIzx _ | cmpIzy _ | cpxImm _ | cpxZp _ | cpyImm _ | cpyZp _ | incZp _ | incZpx _ | decZp _
  | decZpx _ | andImm _ | andZp _ | andZpx _ | andIzx _ | andIzy _ | oraImm _ | oraZp _ | oraZpx _ | oraIzx _
  | oraIzy _ | eorImm _ | eorZp _ | eorZpx _ | eorIzx _ | eorIzy _ | bitZp _ | aslZp _ | aslZpx _ | lsrZp _
  | lsrZpx _ | rolZp _ | rolZpx _ | rorZp _ | rorZpx _ | bcc _ | bcs _ | beq _ | bne _ | bmi _ | bpl _ | bvc _
  | bvs _ =>
    exact ⟨_, _, _, .f2 (fun _ => rfl) rfl, .f2 _ _⟩
  | ldaAbs _ | ldaAbx _ | ldaAby _ | ldxAbs _ | ldxAby _ | ldyAbs _ | ldyAbx _ | staAbs _ | staAbx _ | staAby _
  | stxAbs _ | styAbs _ | adcAbs _ | adcAbx _ | adcAby _ | sbcAbs _ | sbcAbx _ | sbcAby _ | cmpAbs _ | cmpAbx _
  | cmpAby _ | cpxAbs _ | cpyAbs _ | incAbs _ | incAbx _ | decAbs _ | decAbx _ | andAbs _ | andAbx _ | andAby _
  | oraAbs _ | oraAbx _ | oraAby _ | eorAbs _ | eorAbx _ | eorAby _ | bitAbs _ | aslAbs _ | aslAbx _ | lsrAbs _
  | lsrAbx _ | rolAbs _ | rolAbx _ | rorAbs _ | rorAbx _ | jmpAbs _ | jmpInd _ | jsr _ =>
    exact ⟨_, _, _, .f3 (fun _ => rfl) rfl, .f3 _ _⟩

/-! ### The decoder after the encoder -/

/-- Settles O1: the instruction's cell of the grid gives both its encoding and what the decoder makes of it. -/
theorem decodeOfEncodeIsTheInstruction : Obligations.DecodeOfEncodeIsTheInstruction := by
  intro i rest
  obtain ⟨op, f, operands, hcell, hmakes⟩ := i.gridCell
  rw [hcell.encode_eq hmakes]
  exact decode_eq_ok_iff.mpr ⟨op, f, operands, hcell.lookup_eq, hmakes, rfl⟩

/-- Settles O4: each word is the encoding of the instruction that it stands for. -/
theorem writtenOutWordsDecode : Obligations.WrittenOutWordsDecode :=
  have roundTrip := decodeOfEncodeIsTheInstruction
  ⟨roundTrip (.ldaImm 0x42) [], roundTrip (.staAbs 0x0400) [], roundTrip (.adcIzy 0x80) [0xEA],
    roundTrip (.aslAbx 0x1234) [], roundTrip .pla [], roundTrip (.jmpInd 0x30FF) [], roundTrip (.bne 0xF6) [],
    roundTrip .rti []⟩

/-! ### The encoder after the decoder -/

/-- The instruction that a form makes of operand bytes $00. -/
def Form.sample : Form → Instr
  | .f1 i => i
  | .f2 k => k 0x00
  | .f3 k => k 0x0000

/-- In all 256 cells the encoder's table agrees with the decoder's grid about the opcode. -/
theorem head_encode_sample (op : Byte) :
    ((lookup op).all fun f => (encode f.sample).head? = some op) = true := by
  revert op
  decide

/-- Whatever the grid holds is a cell: the form's sample has one, with the same opcode. -/
theorem GridCell.of_lookup {op : Byte} {f : Form} (h : lookup op = some f) : GridCell op f := by
  obtain ⟨op', f', operands, hcell, hmakes⟩ := f.sample.gridCell
  have hop : op' = op := by
    have hhead := head_encode_sample op
    simpa [h, hcell.encode_eq hmakes] using hhead
  subst hop
  have hf : f' = f := by simpa [h] using hcell.lookup_eq.symm
  exact hf ▸ hcell

/-- Settles O2: the bytes that decode are an opcode and its form's operand bytes, with which the encoder agrees. -/
theorem decodedBytesAreTheEncoding : Obligations.DecodedBytesAreTheEncoding := by
  intro bytes rest i hdecode
  obtain ⟨op, f, operands, hlookup, hmakes, hbytes⟩ := decode_eq_ok_iff.mp hdecode
  rw [hbytes, (GridCell.of_lookup hlookup).encode_eq hmakes]

/-! ### The number of valid opcodes (R74) -/

/-- How many opcodes of a row of the grid are valid. -/
def validInRow (row : Nat) : Nat :=
  (List.range 16).countP fun column => (lookup (u8 (16 * row + column))).isSome

theorem validInRow_eq :
    (List.range 16).map validInRow = [9, 8, 11, 8, 10, 8, 10, 8, 9, 9, 12, 11, 11, 8, 11, 8] := by
  decide

/-- The valid opcodes of the first rows are counted row by row. -/
theorem countP_lookup_rows (rows : Nat) :
    ((List.range (16 * rows)).countP fun n => (lookup (u8 n)).isSome) =
      ((List.range rows).map validInRow).sum := by
  induction rows with
  | zero => rfl
  | succ rows ih =>
    rw [Nat.mul_succ, List.range_add, List.countP_append, List.countP_map, ih, List.sum_range_succ]
    rfl

/-- The opcodes with the low bits 11 are the columns 3, 7, B and F of the grid. -/
theorem column_of_low_bits {op : Byte} (h0 : op.getLsbD 0 = true) (h1 : op.getLsbD 1 = true) :
    op.toNat % 16 = 3 ∨ op.toNat % 16 = 7 ∨ op.toNat % 16 = 11 ∨ op.toNat % 16 = 15 := by
  simp only [BitVec.getLsbD, Nat.testBit_eq_decide_div_mod_eq, decide_eq_true_eq] at h0 h1
  omega

/-- Those columns are empty in every row. -/
theorem lookup_eq_none_of_low_bits {op : Byte} (h0 : op.getLsbD 0 = true) (h1 : op.getLsbD 1 = true) :
    lookup op = none := by
  rcases column_of_low_bits h0 h1 with h | h | h | h <;>
  · simp only [lookup, h]
    split <;> rfl

theorem decode_of_lookup_eq_none {op : Byte} (h : lookup op = none) (rest : List Byte) :
    decode (op :: rest) = .error (.illegalOpcode op) := by
  simp [decode, h]

/-- Settles O3: the rows' counts add up to 151, and the columns with the low bits 11 are empty. -/
theorem oneHundredFiftyOneOpcodes : Obligations.OneHundredFiftyOneOpcodes := by
  refine ⟨?count, fun op h0 h1 rest => decode_of_lookup_eq_none (lookup_eq_none_of_low_bits h0 h1) rest⟩
  case count =>
    calc _ = ((List.range 16).map validInRow).sum := countP_lookup_rows 16
      _ = 151 := by rw [validInRow_eq]; rfl

end Sys2Proof

namespace Sys2Proof.Machine

/-! ### The fetch of an opcode that is not valid (R74) -/

theorem State.fetch_eq_none {s : State} (h : lookup s.opcode = none) : s.fetch = none := by
  simp [State.fetch, h]

theorem runInstruction_of_fetch_eq_none {s : State} (h : s.fetch = none) :
    runInstruction s = .fault (.illegalOpcode s.opcode) := by
  simp [runInstruction, h]

/-- Settles O6: nothing is fetched, so running the instruction is the fault that names the opcode. -/
theorem illegalOpcodeFaults : Obligations.IllegalOpcodeFaults := by
  intro s hevent hlookup
  exact (step_of_event_instruction hevent).trans (runInstruction_of_fetch_eq_none (State.fetch_eq_none hlookup))

end Sys2Proof.Machine
end

section
/-! PROOFS about addressing (30_encoding.md R60 to R72): where the effective addresses wrap, and how far a branch
reaches. -/

namespace Sys2Proof.Machine

/-! ### Effective addresses (R63 to R71) -/

/-- A sum of page zero wraps in page zero. -/
theorem zext16_add_toNat (b c : Byte) : (zext16 (b + c)).toNat = (b.toNat + c.toNat) % 256 := by
  rw [zext16_toNat, BitVec.toNat_add]

/-- An index is added modulo 65536. -/
theorem add_zext16_toNat (w : Word) (b : Byte) : (w + zext16 b).toNat = (w.toNat + b.toNat) % 65536 := by
  rw [BitVec.toNat_add, zext16_toNat]

/-- Settles O23, by the two laws of indexed sums. -/
theorem directAddressesWrapInTheirRange : Obligations.DirectAddressesWrapInTheirRange := fun s b w =>
  ⟨zext16_toNat b, zext16_add_toNat b s.x, zext16_add_toNat b s.y, rfl, add_zext16_toNat w s.x,
    add_zext16_toNat w s.y⟩

/-- Settles O24: the pointer's address is a sum of bytes, the address after it an indexed sum. -/
theorem indirectAddressesIndexBeforeOrAfter : Obligations.IndirectAddressesIndexBeforeOrAfter := by
  intro s b
  refine ⟨?before, add_zext16_toNat (s.read16Zp b) s.y⟩
  case before =>
    have hpointer : BitVec.ofNat 8 (b.toNat + s.x.toNat) = b + s.x := by
      apply BitVec.eq_of_toNat_eq
      rw [BitVec.toNat_ofNat, BitVec.toNat_add]
    rw [hpointer]
    rfl

/-! ### Branch targets (R72) -/

theorem sext16_toInt (b : Byte) : (sext16 b).toInt = b.toInt :=
  BitVec.toInt_signExtend_of_le (by decide)

theorem toInt_mem_range (b : Byte) : -128 ≤ b.toInt ∧ b.toInt ≤ 127 := by
  have hlow := b.le_toInt
  have hhigh := b.toInt_lt
  omega

/-- The displacement that reaches a target is the signed distance to it. -/
theorem branchTarget_eq_iff {pc target : Word} {b : Byte} :
    branchTarget pc b = target ↔ b.toInt = (target - pc).toInt := by
  rw [← sext16_toInt, BitVec.toInt_inj, branchTarget, BitVec.eq_sub_iff_add_eq, BitVec.add_comm]

/-- Addition modulo 65536 agrees with the sum of integers. -/
theorem branchTarget_eq_ofInt (pc0 : Word) (b : Byte) :
    branchTarget (pc0 + 2) b = BitVec.ofInt 16 (pc0.toNat + 2 + b.toInt) := by
  have hdisp : sext16 b = BitVec.ofInt 16 b.toInt := rfl
  rw [BitVec.ofInt_add, BitVec.ofInt_add, BitVec.ofInt_natCast, BitVec.ofNat_toNat]
  simp [branchTarget, hdisp]

/-- Seen from the branch itself, a target is two bytes further than its displacement says. -/
theorem branchTarget_sub_toInt (pc0 : Word) (b : Byte) :
    (branchTarget (pc0 + 2) b - pc0).toInt = b.toInt + 2 := by
  have hsub : branchTarget (pc0 + 2) b - pc0 = sext16 b + 2 := by
    rw [branchTarget]; bv_omega
  obtain ⟨hlow, hhigh⟩ := toInt_mem_range b
  have htwo : (2 : Word).toInt = 2 := rfl
  rw [hsub, BitVec.toInt_add, sext16_toInt, htwo]
  exact Int.bmod_eq_of_le (by omega) (by omega)

/-- Settles O25: the distance from the branch is the displacement plus 2, and a displacement is from -128 to 127. -/
theorem branchTargetsAreWithinReach : Obligations.BranchTargetsAreWithinReach := by
  intro pc0 b
  obtain ⟨hlow, hhigh⟩ := toInt_mem_range b
  rw [branchTarget_sub_toInt]
  exact ⟨branchTarget_eq_ofInt pc0 b, by omega, by omega⟩

/-! ### The assembler's displacement (R72) -/

theorem u8Int_toInt {d : Int} (hlow : -128 ≤ d) (hhigh : d ≤ 127) : (u8Int d).toInt = d := by
  rw [u8Int, BitVec.toInt_ofInt]
  exact Int.bmod_eq_of_le (by omega) (by omega)

theorem u8Int_of_toInt (b : Byte) : u8Int b.toInt = b := BitVec.ofInt_toInt

/-- The assembler answers the displacement that reaches the target, where there is one. -/
theorem displacement_eq_some_iff {pc0 target : Word} {b : Byte} :
    displacement pc0 target = some b ↔ branchTarget (pc0 + 2) b = target := by
  rw [branchTarget_eq_iff, displacement]
  constructor
  · intro h
    split at h
    next hrange =>
      obtain ⟨hlow, hhigh⟩ := hrange
      cases h
      exact u8Int_toInt hlow hhigh
    next => cases h
  · intro h
    rw [← h]
    simp only [if_pos (toInt_mem_range b), u8Int_of_toInt]

/-- Settles O26: a displacement is answered exactly where it reaches the target. -/
theorem assembledDisplacementReachesTheTarget : Obligations.AssembledDisplacementReachesTheTarget := by
  intro pc0 target
  refine ⟨fun b => displacement_eq_some_iff.mp, fun hnone b htarget => ?rejected⟩
  case rejected =>
    rw [displacement_eq_some_iff.mpr htarget] at hnone
    cases hnone

end Sys2Proof.Machine
end

section
/-! PROOFS about loads, stores and transfers (40_load_store_transfer.md R80 to R91), with what they share with the other
instructions: the forms of every mnemonic (R73, R75), and what a mnemonic that reads its operand, one that stores a
register, and one that takes no operand answer. -/

namespace Sys2Proof

open Sys2Proof.Claims

/-! ### The forms of a mnemonic (R73, R75) -/

/-- The modes of the mnemonic's "Operands" line, each with its opcode of R75's second table. -/
def formsOf (m : Mnemonic) : List (Mode × Byte) :=
  (modesOf m).filterMap fun md => (opcodeOf m md).map fun op => (md, op)

theorem mem_formsOf {m : Mnemonic} {md : Mode} {op : Byte} :
    (md, op) ∈ formsOf m ↔ md ∈ modesOf m ∧ opcodeOf m md = some op := by
  simp [formsOf, List.mem_filterMap, Option.map_eq_some_iff]

theorem Instr.mode_mem_modesOf (i : Instr) : i.mode ∈ modesOf i.mnemonic := by
  have hwellFormed : i.wellFormed = true := by cases i <;> rfl
  simpa [Instr.wellFormed, formExists] using hwellFormed

/-- An instruction is encoded with the opcode of its form. -/
theorem Instr.exists_form (i : Instr) :
    ∃ op, (i.mode, op) ∈ formsOf i.mnemonic ∧ encode i = op :: i.operand.bytes := by
  obtain ⟨op, f, operands, hcell, hmakes⟩ := i.gridCell
  have hencode := hcell.encode_eq hmakes
  rcases hopcode : opcodeOf i.mnemonic i.mode with _ | op'
  case none => simp [encode, hopcode] at hencode
  case some => exact ⟨op', mem_formsOf.mpr ⟨i.mode_mem_modesOf, hopcode⟩, by simp only [encode, hopcode]⟩

/-- The mnemonic and the mode in an opcode's cell of the grid. -/
def cellForm (op : Byte) : Option (Mnemonic × Mode) :=
  (lookup op).map fun f => (f.sample.mnemonic, f.sample.mode)

/-- The two tables of R75 agree: the opcode of a mnemonic's form has that form in its cell. -/
theorem cellForm_of_mem_formsOf {m : Mnemonic} {md : Mode} {op : Byte} (h : (md, op) ∈ formsOf m) :
    cellForm op = some (m, md) := by
  have hcells : ∀ form ∈ formsOf m, cellForm form.2 = some (m, form.1) := by
    cases m <;> decide
  exact hcells _ h

/-- So an opcode has one form at most. -/
theorem form_unique {m m' : Mnemonic} {md md' : Mode} {op : Byte} (h : (md, op) ∈ formsOf m)
    (h' : (md', op) ∈ formsOf m') : m = m' ∧ md = md' := by
  have hcell := (cellForm_of_mem_formsOf h).symm.trans (cellForm_of_mem_formsOf h')
  simpa using hcell

/-- Two bytes after a valid opcode are enough for the decoder. -/
theorem exists_decode_of_lookup {op : Byte} {f : Form} (h : lookup op = some f) (b1 b2 : Byte) :
    ∃ i rest, decode [op, b1, b2] = .ok (i, rest) := by
  cases f with
  | f1 i => exact ⟨_, _, decode_eq_ok_iff.mpr ⟨op, _, [], h, .f1 i, rfl⟩⟩
  | f2 k => exact ⟨_, _, decode_eq_ok_iff.mpr ⟨op, _, [b1], h, .f2 k b1, rfl⟩⟩
  | f3 k => exact ⟨_, _, decode_eq_ok_iff.mpr ⟨op, _, _, h, .f3 k (cat b2 b1), by rw [wordBytes_cat]; rfl⟩⟩

/-- What decodes from an opcode has the form that the opcode stands for. -/
theorem form_of_decode {op : Byte} {bytes rest : List Byte} {i : Instr} (h : decode (op :: bytes) = .ok (i, rest)) :
    (i.mode, op) ∈ formsOf i.mnemonic := by
  obtain ⟨op', hform, hencode⟩ := i.exists_form
  have hbytes := decodedBytesAreTheEncoding _ _ _ h
  rw [hencode] at hbytes
  obtain ⟨rfl, -⟩ := List.cons.inj hbytes
  exact hform

/-- Every mnemonic has the forms of the two tables and no others. -/
theorem hasForms_formsOf (m : Mnemonic) : HasForms m (formsOf m) := by
  refine ⟨?encoded, ?decoded⟩
  case encoded =>
    rintro i rfl
    exact i.exists_form
  case decoded =>
    intro md op hform b1 b2
    obtain ⟨f, hlookup, -⟩ := Option.map_eq_some_iff.mp (cellForm_of_mem_formsOf hform)
    obtain ⟨i, rest, hdecode⟩ := exists_decode_of_lookup hlookup b1 b2
    obtain ⟨hmnemonic, hmode⟩ := form_unique (form_of_decode hdecode) hform
    exact ⟨i, rest, hdecode, hmnemonic, hmode⟩

end Sys2Proof

namespace Sys2Proof.Machine

open Sys2Proof.Claims

/-! ### The loads' effects in the words of the statements (R25, R80 to R82) -/

theorem loadA_eq (m : Byte) (s : State) : loadA m s = { s with a := m, p := nz s.p m } := rfl
theorem loadX_eq (m : Byte) (s : State) : loadX m s = { s with x := m, p := nz s.p m } := rfl
theorem loadY_eq (m : Byte) (s : State) : loadY m s = { s with y := m, p := nz s.p m } := rfl

/-! ### A mnemonic that reads its operand -/

theorem Instr.length_of_operand_mem {i : Instr} {r : MemRef} (h : i.operand = .mem r) : i.length = r.mode.length := by
  rw [Instr.length, Instr.mode, h]
  rfl

theorem ReadEffect.unique {m : Mnemonic} {f g : Byte → State → State} (hf : ReadEffect m f) (hg : ReadEffect m g) :
    f = g := by
  cases hf <;> cases hg <;> rfl

theorem ImpliedEffect.memUse_eq {m : Mnemonic} {f : State → State} (h : ImpliedEffect m f) : memUse m = .never := by
  cases h <;> rfl

theorem Branch.memUse_eq {m : Mnemonic} (h : Branch m) : memUse m = .never := by
  cases h <;> rfl

/-- A mnemonic that reads runs in no other shape than the two that read, since its use of memory is another. -/
theorem ReadEffect.runsAs_cases {m : Mnemonic} {f : Byte → State → State} {o : Operand} {run : State → Result}
    (h : ReadEffect m f) (hruns : RunsAs m o run) :
    (∃ b, o = .imm b ∧ run = readImm b f) ∨ (∃ r, o = .mem r ∧ run = readMem r f) := by
  have hreads := h.memUse_eq
  cases hruns with
  | readImm effect => exact .inl ⟨_, rfl, by rw [h.unique effect]⟩
  | readMem effect => exact .inr ⟨_, rfl, by rw [h.unique effect]⟩
  | storeMem stored => cases hreads.symm.trans stored.memUse_eq
  | modifyMem effect | modifyAcc effect | implied effect => cases hreads.symm.trans effect.memUse_eq
  | branch isBranch => cases hreads.symm.trans isBranch.memUse_eq
  | jump | jumpIndirect | call => cases hreads

/-- Such a mnemonic applies its effect, which `effect` may say in other words, to the operand byte, at the state past
the instruction. -/
theorem ReadEffect.reads {m : Mnemonic} {f effect : Byte → State → State} (h : ReadEffect m f)
    (heffect : ∀ v s, f v s = effect v s) : Reads m effect := by
  intro i s hm
  rcases h.runsAs_cases (hm ▸ exec_runsAs i) with ⟨b, ho, hrun⟩ | ⟨r, ho, hrun⟩
  · rw [ho, hrun]
    exact congrArg _ (heffect b (past s 2))
  · rw [ho, hrun, Instr.length_of_operand_mem ho, readMem_eq]
    exact congrArg _ (heffect (s.load r) (past s r.mode.length))

/-- Settles O27: the three effects are those of the statement, and the forms those of the tables. -/
theorem loadsPutTheOperandInTheRegister : Obligations.LoadsPutTheOperandInTheRegister :=
  ⟨hasForms_formsOf .lda, hasForms_formsOf .ldx, hasForms_formsOf .ldy,
    ReadEffect.lda.reads loadA_eq, ReadEffect.ldx.reads loadX_eq, ReadEffect.ldy.reads loadY_eq⟩

/-! ### A mnemonic that stores a register -/

theorem StoredRegister.unique {m : Mnemonic} {v w : State → Byte} (hv : StoredRegister m v)
    (hw : StoredRegister m w) : v = w := by
  cases hv <;> cases hw <;> rfl

/-- A mnemonic that stores runs in no other shape than the one that stores. -/
theorem StoredRegister.runsAs_storeMem {m : Mnemonic} {v : State → Byte} {o : Operand} {run : State → Result}
    (h : StoredRegister m v) (hruns : RunsAs m o run) : ∃ r, o = .mem r ∧ run = storeMem r v := by
  have hstores := h.memUse_eq
  cases hruns with
  | storeMem stored => exact ⟨_, rfl, by rw [h.unique stored]⟩
  | readImm effect | readMem effect | modifyMem effect | modifyAcc effect | implied effect =>
    cases hstores.symm.trans effect.memUse_eq
  | branch isBranch => cases hstores.symm.trans isBranch.memUse_eq
  | jump | jumpIndirect | call => cases hstores

/-- Such a mnemonic changes `pc` and writes one byte: the law of reads after a write says what memory then holds. -/
theorem StoredRegister.storesRegister {m : Mnemonic} {v : State → Byte} (h : StoredRegister m v) :
    StoresRegister m v := by
  intro i s hm
  obtain ⟨r, ho, hrun⟩ := h.runsAs_storeMem (hm ▸ exec_runsAs i)
  rw [ho, Instr.length_of_operand_mem ho]
  refine ⟨_, hrun ▸ h.storeMem_eq r s, ?frame, ?bytes⟩
  case frame =>
    rw [State.write_eq]
    rfl
  case bytes => exact State.write_storedAt (effectiveAddr r s) (v s)

/-- Settles O28: each of the three stores its register, in the forms of the tables. -/
theorem storesPutTheRegisterInMemory : Obligations.StoresPutTheRegisterInMemory :=
  ⟨hasForms_formsOf .sta, hasForms_formsOf .stx, hasForms_formsOf .sty,
    StoredRegister.sta.storesRegister, StoredRegister.stx.storesRegister, StoredRegister.sty.storesRegister⟩

/-! ### A mnemonic that takes no operand -/

theorem ImpliedEffect.unique {m : Mnemonic} {f g : State → State} (hf : ImpliedEffect m f) (hg : ImpliedEffect m g) :
    f = g := by
  cases hf <;> cases hg <;> rfl

/-- A mnemonic without an operand runs in one shape alone. -/
theorem ImpliedEffect.eq_implied {m : Mnemonic} {f : State → State} {run : State → Result} (h : ImpliedEffect m f)
    (hruns : RunsAs m .imp run) : run = implied f := by
  cases hruns with
  | implied effect => rw [h.unique effect]

/-- The instruction of such a mnemonic is its opcode alone, and applies its effect one byte further. -/
theorem ImpliedEffect.isImplied {m : Mnemonic} {i : Instr} {f effect : State → State} {op : Byte}
    (h : ImpliedEffect m f) (hm : i.mnemonic = m) (ho : i.operand = .imp) (hencode : encode i = [op])
    (heffect : ∀ s, f s = effect s) : Implied i op effect := by
  refine ⟨hencode, ?decoded, fun s => ?answer⟩
  case decoded =>
    have hdecode := decodeOfEncodeIsTheInstruction i []
    rwa [hencode] at hdecode
  case answer =>
    have hrun : exec i = implied f := h.eq_implied (hm ▸ ho ▸ exec_runsAs i)
    rw [hrun]
    exact congrArg _ (heffect (past s 1))

/-- Settles O29: five transfers load the destination with the source, and TXS writes SP alone. -/
theorem transfersCopyTheRegister : Obligations.TransfersCopyTheRegister :=
  ⟨ImpliedEffect.tax.isImplied rfl rfl rfl fun s => loadX_eq s.a s,
    ImpliedEffect.tay.isImplied rfl rfl rfl fun s => loadY_eq s.a s,
    ImpliedEffect.txa.isImplied rfl rfl rfl fun s => loadA_eq s.x s,
    ImpliedEffect.tya.isImplied rfl rfl rfl fun s => loadA_eq s.y s,
    ImpliedEffect.tsx.isImplied rfl rfl rfl fun s => loadX_eq s.sp s,
    ImpliedEffect.txs.isImplied rfl rfl rfl fun _ => rfl⟩

end Sys2Proof.Machine
end

section
/-! PROOFS about arithmetic (41_arithmetic.md R100 to R112): the model's sums, differences and steps in the words of the
statements, and what a mnemonic that modifies a byte answers. -/

namespace Sys2Proof.Machine

open Sys2Proof.Claims

/-! ### Byte arithmetic, modulo 256 (R5) -/

theorem bitValue_eq_toNat (b : Bool) : bitValue b = b.toNat := by
  cases b <;> rfl

theorem u8_toNat_add_one (m : Byte) : u8 (m.toNat + 1) = m + 1 := by
  rw [u8, BitVec.ofNat_add, BitVec.ofNat_toNat, BitVec.setWidth_eq]
  rfl

theorem u8Int_natCast (n : Nat) : u8Int (n : Int) = u8 n := BitVec.ofInt_natCast 8 n

theorem u8Int_toNat_sub (r m : Byte) : u8Int ((r.toNat : Int) - (m.toNat : Int)) = r - m := by
  apply BitVec.eq_of_toNat_eq
  rw [u8Int, BitVec.toNat_ofInt, BitVec.toNat_sub]
  omega

theorem u8Int_toNat_sub_one (m : Byte) : u8Int ((m.toNat : Int) - 1) = m - 1 := u8Int_toNat_sub m 1

/-- Integers that differ by 256 are one byte. -/
theorem u8Int_add_256 (n : Int) : u8Int (n + 256) = u8Int n := by
  apply BitVec.eq_of_toNat_eq
  rw [u8Int, u8Int, BitVec.toNat_ofInt, BitVec.toNat_ofInt]
  omega

theorem bit_seven_eq (v : Byte) : bit v 7 = decide (128 ≤ v.toNat) := BitVec.msb_eq_decide v

theorem toInt_eq_ite (v : Byte) : v.toInt = if v.toNat < 128 then (v.toNat : Int) else (v.toNat : Int) - 256 := by
  rw [BitVec.toInt_eq_toNat_cond]
  split <;> split <;> omega

theorem xor_ones_eq_not (m : Byte) : m ^^^ 0xFF = ~~~m := BitVec.xor_allOnes

theorem toNat_xor_ones (m : Byte) : (m ^^^ 0xFF).toNat = 255 - m.toNat := by
  rw [xor_ones_eq_not, BitVec.toNat_not]

theorem bit_seven_xor_ones (m : Byte) : bit (m ^^^ 0xFF) 7 = !bit m 7 := by
  rw [xor_ones_eq_not, bit, BitVec.getLsbD_not]
  rfl

/-! ### A mnemonic that reads its operand, by its operand byte -/

theorem Instr.length_of_operand_imm {i : Instr} {b : Byte} (h : i.operand = .imm b) : i.length = 2 := by
  rw [Instr.length, Instr.mode, h]
  rfl

/-- The operand byte of `operandByte` is the one that the effect is applied to. -/
theorem ReadEffect.exec_eq {m : Mnemonic} {f : Byte → State → State} (h : ReadEffect m f) {i : Instr}
    (hm : i.mnemonic = m) (s : State) :
    ∃ v, operandByte i s = some v ∧ exec i s = .next (f v (past s i.length)) := by
  rcases h.runsAs_cases (hm ▸ exec_runsAs i) with ⟨b, ho, hrun⟩ | ⟨r, ho, hrun⟩
  · exact ⟨b, by rw [operandByte, ho], by rw [hrun, Instr.length_of_operand_imm ho]; rfl⟩
  · exact ⟨s.load r, by rw [operandByte, ho]; rfl,
      by rw [hrun, readMem_eq, Instr.length_of_operand_mem ho]; rfl⟩

/-! ### Binary ADC and SBC (R101, R103) -/

theorem decimalMode_eq_false {s : State} (h : s.p.d = false ∨ s.params.decimalEnabled = false) :
    decimalMode s = false := by
  rcases h with hd | henabled
  · rw [decimalMode, hd, Bool.false_and]
  · rw [decimalMode, henabled, Bool.and_false]

/-- The signs that give V, as Booleans and as propositions. -/
theorem addSigns_eq_decide (a m r : Bool) : ((a == m) && (r != a)) = decide (a = m ∧ r ≠ a) := by
  revert a m r
  decide

theorem subSigns_eq_decide (a m r : Bool) : ((a != m) && (r != a)) = decide (a ≠ m ∧ r ≠ a) := by
  revert a m r
  decide

theorem setSum_addBinary (m : Byte) (s : State) : setSum (addBinary s.a m s.p.c) s = adcBinary m s := by
  simp only [setSum, addBinary, bitValue_eq_toNat, addSigns_eq_decide]
  rfl

theorem setSum_subBinary (m : Byte) (s : State) : setSum (subBinary s.a m s.p.c) s = sbcBinary m s := by
  simp only [setSum, subBinary, bitValue_eq_toNat, subSigns_eq_decide]
  rfl

/-- A mnemonic whose effect outside decimal mode is `binary` answers the state that `binary` makes of the operand. -/
theorem ReadEffect.exec_binary {m : Mnemonic} {f binary : Byte → State → State} (h : ReadEffect m f)
    (hbinary : ∀ v s, decimalMode s = false → f v s = binary v s) (i : Instr) (s : State) (hm : i.mnemonic = m)
    (hmode : s.p.d = false ∨ s.params.decimalEnabled = false) :
    match operandByte i s with
    | some v => exec i s = .next (binary v (past s i.length))
    | none => False := by
  obtain ⟨v, hv, hexec⟩ := h.exec_eq hm s
  rw [hv, hexec]
  exact congrArg _ (hbinary v _ (decimalMode_eq_false hmode))

/-- Settles O30: outside decimal mode the effect of ADC is R101's sum, in the forms of the tables. -/
theorem binaryAdcAddsWithCarry : Obligations.BinaryAdcAddsWithCarry :=
  ⟨hasForms_formsOf .adc, ReadEffect.adc.exec_binary fun v s hmode =>
    (addWithCarry_binary v s hmode).trans (setSum_addBinary v s)⟩

/-- Settles O31: outside decimal mode the effect of SBC is R103's difference, in the forms of the tables. -/
theorem binarySbcSubtractsWithBorrow : Obligations.BinarySbcSubtractsWithBorrow :=
  ⟨hasForms_formsOf .sbc, ReadEffect.sbc.exec_binary fun v s hmode =>
    (subtractWithCarry_binary v s hmode).trans (setSum_subBinary v s)⟩

/-! ### V as signed overflow, SBC as ADC of the complement (inferences of R101 and R103) -/

/-- The signs and the values of the operands and of the sum are all read off the unsigned values. -/
theorem addBinary_overflow (a m : Byte) (c : Bool) : (addBinary a m c).overflow =
    decide (a.toInt + m.toInt + c.toNat < -128 ∨ 127 < a.toInt + m.toInt + c.toNat) := by
  have hc : c.toNat ≤ 1 := c.toNat_le
  have ha := a.isLt
  have hm := m.isLt
  have hr : (u8 (a.toNat + m.toNat + c.toNat)).toNat = (a.toNat + m.toNat + c.toNat) % 256 :=
    BitVec.toNat_ofNat _ 8
  simp only [addBinary, bitValue_eq_toNat, addSigns_eq_decide, bit_seven_eq, hr, toInt_eq_ite, decide_eq_decide,
    ne_eq]
  split <;> split <;> omega

/-- The borrow's difference and the complement's sum differ by 256, so they are one byte, and C is 1 for both where the
sum is above 255; the complement's bit 7 turns the sign of the operand. -/
theorem subBinary_eq_addBinary_complement (a m : Byte) (c : Bool) :
    subBinary a m c = addBinary a (m ^^^ 0xFF) c := by
  have hm := m.isLt
  have hsum : ((a.toNat + (m ^^^ 0xFF).toNat + bitValue c : Nat) : Int) =
      (a.toNat - m.toNat - (1 - bitValue c) : Int) + 256 := by
    rw [toNat_xor_ones]
    omega
  have hvalue : u8 (a.toNat + (m ^^^ 0xFF).toNat + bitValue c) =
      u8Int (a.toNat - m.toNat - (1 - bitValue c)) := by
    rw [← u8Int_natCast, hsum, u8Int_add_256]
  have hcarry : a.toNat + (m ^^^ 0xFF).toNat + bitValue c > 255 ↔
      (0 : Int) ≤ a.toNat - m.toNat - (1 - bitValue c) := by
    omega
  have hsigns : (bit a 7 == bit (m ^^^ 0xFF) 7) = (bit a 7 != bit m 7) := by
    rw [bit_seven_xor_ones]
    cases bit a 7 <;> cases bit m 7 <;> rfl
  simp only [subBinary, addBinary, hvalue, hcarry, hsigns]

/-- Settles O34: V by the signs of the sum, and SBC by the equality of the two sums. -/
theorem binaryArithmeticIsSignedAndComplement : Obligations.BinaryArithmeticIsSignedAndComplement := by
  refine ⟨addBinary_overflow, fun s m hmode => ?complement⟩
  case complement =>
    rw [subtractWithCarry_binary m s hmode, addWithCarry_binary _ s hmode, subBinary_eq_addBinary_complement]

/-! ### Decimal ADC and SBC (R102) -/

/-- The effect changes A and the flags N, V, Z, C at most. -/
def WritesSumOnly (f : Byte → State → State) : Prop :=
  ∀ v s, { f v s with a := s.a, p := s.p } = s ∧ (f v s).p.d = s.p.d ∧ (f v s).p.i = s.p.i

theorem addWithCarry_writesSumOnly : WritesSumOnly addWithCarry := by
  refine fun v s => ⟨?frame, addWithCarry_d_i v s⟩
  case frame => rw [addWithCarry_eq]

theorem subtractWithCarry_writesSumOnly : WritesSumOnly subtractWithCarry := by
  refine fun v s => ⟨?frame, subtractWithCarry_d_i v s⟩
  case frame => rw [subtractWithCarry_eq]

/-- A mnemonic with such an effect completes, and changes `pc` beside. -/
theorem ReadEffect.completes {m : Mnemonic} {f : Byte → State → State} (h : ReadEffect m f) (hf : WritesSumOnly f)
    {i : Instr} (hm : i.mnemonic = m) (s : State) :
    ∃ t, exec i s = .next t ∧ { t with a := s.a, p := s.p } = past s i.length ∧ t.p.d = s.p.d ∧ t.p.i = s.p.i := by
  obtain ⟨v, -, hexec⟩ := h.exec_eq hm s
  exact ⟨_, hexec, hf v (past s i.length)⟩

/-- Settles O33: both effects write A and P alone, whatever the operands are. -/
theorem decimalArithmeticAlwaysCompletes : Obligations.DecimalArithmeticAlwaysCompletes := by
  rintro i s (hadc | hsbc) - -
  · exact ReadEffect.adc.completes addWithCarry_writesSumOnly hadc s
  · exact ReadEffect.sbc.completes subtractWithCarry_writesSumOnly hsbc s

theorem digits_toNat {t u : Nat} (ht : t ≤ 9) (hu : u ≤ 9) : (digits t u).toNat = 16 * t + u := by
  rw [digits, BitVec.toNat_ofNat]
  omega

/-- Two digits are valid BCD. -/
theorem validBcd_digits {t u : Nat} (ht : t ≤ 9) (hu : u ≤ 9) : validBcd (digits t u) = true := by
  rw [validBcd, digits_toNat ht hu, Bool.and_eq_true, decide_eq_true_eq, decide_eq_true_eq]
  omega

theorem dec_digits {t u : Nat} (ht : t ≤ 9) (hu : u ≤ 9) : dec (digits t u) = 10 * t + u := by
  rw [dec, digits_toNat ht hu]
  omega

theorem bcd_eq_digits (n : Nat) : bcd n = digits (n / 10) (n % 10) := rfl

/-- The decimal sum, of which A holds the two last digits. -/
theorem addDecimal_eq (a m : Byte) (c : Bool) : addDecimal a m c =
    (digits ((dec a + dec m + c.toNat) % 100 / 10) ((dec a + dec m + c.toNat) % 10),
      decide (99 < dec a + dec m + c.toNat)) := by
  rw [addDecimal, bitValue_eq_toNat, bcd_eq_digits, Nat.mod_mod_of_dvd _ (by decide)]

/-- The decimal difference modulo 100: 100 is borrowed where the number taken is the greater. -/
def decimalDifference (n taken : Nat) : Nat := if taken ≤ n then n - taken else n + 100 - taken

theorem subDecimal_eq {a m : Byte} {c : Bool} (ha : dec a < 100) (hm : dec m < 100) : subDecimal a m c =
    (bcd (decimalDifference (dec a) (dec m + (1 - c.toNat))), decide (dec m + (1 - c.toNat) ≤ dec a)) := by
  have hc : c.toNat ≤ 1 := c.toNat_le
  have hborrow : 0 ≤ (dec a : Int) - dec m - (1 - c.toNat) ↔ dec m + (1 - c.toNat) ≤ dec a := by omega
  have hdiff : (((dec a : Int) - dec m - (1 - c.toNat)) % 100).toNat =
      decimalDifference (dec a) (dec m + (1 - c.toNat)) := by
    rw [decimalDifference]
    split <;> omega
  simp only [subDecimal, bitValue_eq_toNat, hborrow, hdiff]

/-- A mnemonic with such an effect answers the A and C that the effect gives for the operand byte. -/
theorem ReadEffect.answers_sum {m : Mnemonic} {f : Byte → State → State} (h : ReadEffect m f) (hf : WritesSumOnly f)
    {i : Instr} {s : State} {v r : Byte} {c : Bool} (hm : i.mnemonic = m) (hv : operandByte i s = some v)
    (hsum : (f v (past s i.length)).a = r ∧ (f v (past s i.length)).p.c = c) :
    ∃ t, exec i s = .next t ∧ t.a = r ∧ t.p.c = c ∧
      { t with a := s.a, p := s.p } = past s i.length ∧ t.p.d = s.p.d ∧ t.p.i = s.p.i := by
  obtain ⟨w, hw, hexec⟩ := h.exec_eq hm s
  obtain rfl : v = w := Option.some.inj (hv.symm.trans hw)
  obtain ⟨ha, hc⟩ := hsum
  exact ⟨_, hexec, ha, hc, hf v (past s i.length)⟩

/-- Settles O32: digits are valid BCD, and the decimal sum and difference are those of the numbers they stand for. -/
theorem decimalArithmeticWorksOnDigits : Obligations.DecimalArithmeticWorksOnDigits := by
  intro i s t1 u1 t2 u2 hd henabled ht1 hu1 ht2 hu2 ha hv sum n taken diff
  have hmode : decimalMode (past s i.length) = true := by
    change (s.p.d && s.params.decimalEnabled) = true
    rw [hd, henabled, Bool.true_and]
  have hvalidA : validBcd (past s i.length).a = true := by
    change validBcd s.a = true
    rw [ha, validBcd_digits ht1 hu1]
  have hvalidM : validBcd (digits t2 u2) = true := validBcd_digits ht2 hu2
  have hdecA : dec s.a = 10 * t1 + u1 := by rw [ha, dec_digits ht1 hu1]
  have hdecM : dec (digits t2 u2) = 10 * t2 + u2 := dec_digits ht2 hu2
  refine ⟨fun hadc => ?sum, fun hsbc => ?difference⟩
  case sum =>
    have hsum : addDecimal s.a (digits t2 u2) s.p.c = (digits (sum % 100 / 10) (sum % 10), decide (99 < sum)) := by
      rw [addDecimal_eq, hdecA, hdecM]
    obtain ⟨hr, hc⟩ := addWithCarry_decimal _ _ hmode hvalidA hvalidM
    exact ReadEffect.adc.answers_sum addWithCarry_writesSumOnly hadc hv
      ⟨hr.trans (congrArg Prod.fst hsum), hc.trans (congrArg Prod.snd hsum)⟩
  case difference =>
    have hdiff : subDecimal s.a (digits t2 u2) s.p.c = (digits (diff / 10) (diff % 10), decide (taken ≤ n)) := by
      rw [subDecimal_eq (by omega) (by omega), hdecA, hdecM]
      rfl
    obtain ⟨hr, hc⟩ := subtractWithCarry_decimal _ _ hmode hvalidA hvalidM
    exact ReadEffect.sbc.answers_sum subtractWithCarry_writesSumOnly hsbc hv
      ⟨hr.trans (congrArg Prod.fst hdiff), hc.trans (congrArg Prod.snd hdiff)⟩

/-! ### The compares (R104 to R106) -/

theorem Flags.compare_eq (p : Flags) (r m : Byte) :
    p.compare r m = nz { p with c := decide (m.toNat ≤ r.toNat) } (r - m) := by
  rw [Flags.compare, u8Int_toNat_sub]
  rfl

theorem compareA_eq (m : Byte) (s : State) :
    compareA m s = { s with p := nz { s.p with c := decide (m.toNat ≤ s.a.toNat) } (s.a - m) } :=
  congrArg s.setP (Flags.compare_eq s.p s.a m)

theorem compareX_eq (m : Byte) (s : State) :
    compareX m s = { s with p := nz { s.p with c := decide (m.toNat ≤ s.x.toNat) } (s.x - m) } :=
  congrArg s.setP (Flags.compare_eq s.p s.x m)

theorem compareY_eq (m : Byte) (s : State) :
    compareY m s = { s with p := nz { s.p with c := decide (m.toNat ≤ s.y.toNat) } (s.y - m) } :=
  congrArg s.setP (Flags.compare_eq s.p s.y m)

/-- Settles O35: the three effects are those of the statement, and the forms those of the tables. -/
theorem comparesSetCarryZeroNegative : Obligations.ComparesSetCarryZeroNegative :=
  ⟨hasForms_formsOf .cmp, hasForms_formsOf .cpx, hasForms_formsOf .cpy,
    ReadEffect.cmp.reads compareA_eq, ReadEffect.cpx.reads compareX_eq, ReadEffect.cpy.reads compareY_eq⟩

/-! ### A mnemonic that modifies A or a byte in memory -/

theorem ModifyEffect.unique {m : Mnemonic} {f g : Byte → Flags → Byte × Flags} (hf : ModifyEffect m f)
    (hg : ModifyEffect m g) : f = g := by
  cases hf <;> cases hg <;> rfl

/-- A mnemonic that modifies runs in no other shape than the two that modify. -/
theorem ModifyEffect.runsAs_cases {m : Mnemonic} {op : Byte → Flags → Byte × Flags} {o : Operand}
    {run : State → Result} (h : ModifyEffect m op) (hruns : RunsAs m o run) :
    (o = .acc ∧ run = modifyAcc op) ∨ (∃ r, o = .mem r ∧ run = modifyMem r op) := by
  have hmodifies := h.memUse_eq
  cases hruns with
  | modifyAcc effect => exact .inl ⟨rfl, by rw [h.unique effect]⟩
  | modifyMem effect => exact .inr ⟨_, rfl, by rw [h.unique effect]⟩
  | readImm effect | readMem effect | implied effect => cases hmodifies.symm.trans effect.memUse_eq
  | storeMem stored => cases hmodifies.symm.trans stored.memUse_eq
  | branch isBranch => cases hmodifies.symm.trans isBranch.memUse_eq
  | jump | jumpIndirect | call => cases hmodifies

/-- Such a mnemonic replaces A, or the byte at its effective address, by the result of its operation, which `effect`
may say in other words. -/
theorem ModifyEffect.modifies {m : Mnemonic} {op effect : Byte → Flags → Byte × Flags} (h : ModifyEffect m op)
    (heffect : ∀ v p, op v p = effect v p) : Modifies m effect := by
  obtain rfl : op = effect := funext₂ heffect
  intro i s hm
  rcases h.runsAs_cases (hm ▸ exec_runsAs i) with ⟨ho, hrun⟩ | ⟨r, ho, hrun⟩
  · rw [ho, hrun]
    rfl
  · rw [ho, Instr.length_of_operand_mem ho]
    refine ⟨_, hrun ▸ modifyMem_eq r op s, ?frame, ?bytes⟩
    case frame =>
      rw [State.write_eq]
      rfl
    case bytes => exact State.write_storedAt (effectiveAddr r s) (op (s.load r) s.p).1

/-! ### Increments and decrements (R107 to R112) -/

theorem incByte_eq (m : Byte) (p : Flags) : incByte m p = (m + 1, nz p (m + 1)) := by
  rw [incByte, u8_toNat_add_one]
  rfl

theorem decByte_eq (m : Byte) (p : Flags) : decByte m p = (m - 1, nz p (m - 1)) := by
  rw [decByte, u8Int_toNat_sub_one]
  rfl

/-- Settles O36: the two operations are those of the statement, and the forms those of the tables. -/
theorem incAndDecModifyMemory : Obligations.IncAndDecModifyMemory :=
  ⟨hasForms_formsOf .inc, hasForms_formsOf .dec,
    ModifyEffect.inc.modifies incByte_eq, ModifyEffect.dec.modifies decByte_eq⟩

theorem stepX_eq (op : Byte → Flags → Byte × Flags) (s : State) :
    stepX op s = { s with x := (op s.x s.p).1, p := (op s.x s.p).2 } := rfl

theorem stepY_eq (op : Byte → Flags → Byte × Flags) (s : State) :
    stepY op s = { s with y := (op s.y s.p).1, p := (op s.y s.p).2 } := rfl

/-- Settles O37: each steps its register by the operation of INC or DEC. -/
theorem indexRegistersStep : Obligations.IndexRegistersStep :=
  ⟨ImpliedEffect.inx.isImplied rfl rfl rfl fun s => by rw [stepX_eq, incByte_eq],
    ImpliedEffect.iny.isImplied rfl rfl rfl fun s => by rw [stepY_eq, incByte_eq],
    ImpliedEffect.dex.isImplied rfl rfl rfl fun s => by rw [stepX_eq, decByte_eq],
    ImpliedEffect.dey.isImplied rfl rfl rfl fun s => by rw [stepY_eq, decByte_eq]⟩

end Sys2Proof.Machine
end

section
/-! PROOFS about logic and shifts (42_logic_shift.md R120 to R127): the model's arithmetic of a shift as the byte whose
bits have moved by one place, and the effects of the bitwise operations in the words of the statements. -/

namespace Sys2Proof.Machine

open Sys2Proof.Claims

/-! ### AND, ORA, EOR, BIT (R120 to R123) -/

theorem setLogic_eq (r : Byte) (s : State) : setLogic r s = { s with a := r, p := nz s.p r } := rfl

/-- Settles O38: the three effects are those of the statement, and the forms those of the tables. -/
theorem logicCombinesBitByBit : Obligations.LogicCombinesBitByBit :=
  ⟨hasForms_formsOf .and, hasForms_formsOf .ora, hasForms_formsOf .eor,
    ReadEffect.and.reads fun m s => setLogic_eq (s.a &&& m) s,
    ReadEffect.ora.reads fun m s => setLogic_eq (s.a ||| m) s,
    ReadEffect.eor.reads fun m s => setLogic_eq (s.a ^^^ m) s⟩

theorem testBits_eq (m : Byte) (s : State) :
    testBits m s =
      { s with p := { s.p with n := m.getLsbD 7, v := m.getLsbD 6, z := decide (s.a &&& m = 0x00) } } := rfl

/-- Settles O39: the effect is that of the statement, and the forms those of the tables. -/
theorem bitTestsTheOperand : Obligations.BitTestsTheOperand :=
  ⟨hasForms_formsOf .bit, ReadEffect.bit.reads testBits_eq⟩

/-! ### A byte shifted by one place, bit by bit and as a number -/

theorem toNat_append_eq_add {n k : Nat} (x : BitVec n) (y : BitVec k) :
    (x ++ y).toNat = x.toNat * 2 ^ k + y.toNat := by
  rw [BitVec.toNat_append, ← Nat.shiftLeft_add_eq_or_of_lt y.isLt, Nat.shiftLeft_eq]

theorem u8_mod_256 (n : Nat) : u8 (n % 256) = u8 n :=
  BitVec.eq_of_toNat_eq (Nat.mod_mod n 256)

/-- Seven bits moved up, and the bit that enters below them: twice the number, modulo 256, plus that bit. -/
theorem append_ofBool_eq_u8 (m : Byte) (b : Bool) :
    m.extractLsb' 0 7 ++ BitVec.ofBool b = u8 (m.toNat * 2 % 256 + bitValue b) := by
  have hbits : (m.extractLsb' 0 7).toNat = m.toNat % 128 := BitVec.extractLsb'_toNat 0 7 m
  have hbit := b.toNat_lt
  apply BitVec.eq_of_toNat_eq
  rw [toNat_append_eq_add, hbits, BitVec.toNat_ofBool, u8, BitVec.toNat_ofNat, bitValue_eq_toNat]
  omega

/-- Seven bits moved down, and the bit that enters above them: half the number, plus 128 times that bit. -/
theorem ofBool_append_eq_u8 (m : Byte) (b : Bool) :
    BitVec.ofBool b ++ m.extractLsb' 1 7 = u8 (m.toNat / 2 + 128 * bitValue b) := by
  have hbits : (m.extractLsb' 1 7).toNat = m.toNat / 2 := by
    rw [BitVec.extractLsb'_toNat, Nat.shiftRight_eq_div_pow]
    omega
  have hbit := b.toNat_lt
  apply BitVec.eq_of_toNat_eq
  rw [toNat_append_eq_add, hbits, BitVec.toNat_ofBool, u8, BitVec.toNat_ofNat, bitValue_eq_toNat]
  omega

/-! ### The shifts (R124 to R127) -/

theorem rolByte_eq (m : Byte) (p : Flags) : rolByte m p =
    (m.extractLsb' 0 7 ++ BitVec.ofBool p.c,
      nz { p with c := m.getLsbD 7 } (m.extractLsb' 0 7 ++ BitVec.ofBool p.c)) := by
  rw [append_ofBool_eq_u8]
  rfl

theorem rorByte_eq (m : Byte) (p : Flags) : rorByte m p =
    (BitVec.ofBool p.c ++ m.extractLsb' 1 7,
      nz { p with c := m.getLsbD 0 } (BitVec.ofBool p.c ++ m.extractLsb' 1 7)) := by
  rw [ofBool_append_eq_u8]
  rfl

/-- ASL is ROL where the bit that enters is 0. -/
theorem aslByte_eq_rolByte (m : Byte) (p : Flags) : aslByte m p = rolByte m { p with c := false } := by
  have hvalue : u8 (m.toNat * 2) = u8 (m.toNat * 2 % 256 + bitValue false) := (u8_mod_256 _).symm
  rw [aslByte, hvalue]
  rfl

/-- LSR is ROR where the bit that enters is 0. -/
theorem lsrByte_eq_rorByte (m : Byte) (p : Flags) : lsrByte m p = rorByte m { p with c := false } := rfl

/-- Settles O40: the operations are those of the statement, ASL and LSR as ROL and ROR with C clear, and the forms those
of the tables. -/
theorem shiftsMoveEveryBitByOne : Obligations.ShiftsMoveEveryBitByOne :=
  ⟨hasForms_formsOf .asl, hasForms_formsOf .lsr, hasForms_formsOf .rol, hasForms_formsOf .ror,
    ModifyEffect.asl.modifies fun m p => (aslByte_eq_rolByte m p).trans (rolByte_eq m _),
    ModifyEffect.lsr.modifies fun m p => (lsrByte_eq_rorByte m p).trans (rorByte_eq m _),
    ModifyEffect.rol.modifies rolByte_eq, ModifyEffect.ror.modifies rorByte_eq⟩

end Sys2Proof.Machine
end

section
/-! PROOFS about the stack (43_stack.md R130 to R135) and the instructions that open the boundary of R178: one push and
one pull as changes of the state, and each instruction read off its effect. -/

namespace Sys2Proof.Machine

open Sys2Proof.Claims

/-! ### One push, one pull (R130, R131) -/

theorem stackAddr_toNat (sp : Byte) : (stackAddr sp).toNat = 0x100 + sp.toNat := cat_toNat 0x01 sp

theorem lo8_eq_extractLsb' (w : Word) : lo8 w = w.extractLsb' 0 8 := rfl

theorem hi8_eq_extractLsb' (w : Word) : hi8 w = w.extractLsb' 8 8 := rfl

theorem State.push_storedAt {s : State} (v : Byte) (hwf : s.wf = true) :
    StoredAt s (s.push v) [(stackAddr s.sp, v)] :=
  fun k b => State.read_push s v k b hwf

/-- Settles O41: a push changes SP and, by the law of reads after a push, one byte; two bytes are two pushes. -/
theorem pushAndPullMoveTheStackPointer : Obligations.PushAndPullMoveTheStackPointer := by
  intro s v k
  refine ⟨stackAddr_toNat s.sp, ?frame, State.push_storedAt v, State.pull_eq s k, fun w => ?twoBytes⟩
  case frame => rw [State.push_eq]
  case twoBytes => rw [State.push16, hi8_eq_extractLsb', lo8_eq_extractLsb']

/-- Settles O42: the pull comes back to the SP of the push, where the platform took the byte. -/
theorem pullAfterPushReturnsTheByte : Obligations.PullAfterPushReturnsTheByte := by
  intro s v k hwf htakes
  have hsp : (s.push v).sp + 1 = s.sp := by rw [State.push_sp, sub_add_cancel]
  refine ⟨?byte, hsp⟩
  case byte =>
    calc ((s.push v).pull k).1 = (s.push v).read k (stackAddr s.sp) := by rw [State.pull_eq, hsp]
      _ = v := by rw [State.read_push s v k _ hwf, if_pos ⟨htakes, rfl⟩]

/-! ### PHA, PHP, PLA (R132 to R134) -/

theorem pushP_eq (s : State) : pushP s = s.push (statusByte s.p true) := by
  rw [pushP, Flags.toByte_eq_statusByte]

/-- A one-byte instruction that pushes stores that byte, which does not depend on `pc`, and moves SP and `pc`. -/
theorem stores_of_implied_push {i : Instr} {op : Byte} {v : State → Byte} (h : Implied i op fun s => s.push (v s))
    (hv : ∀ s, v (past s 1) = v s) (s : State) :
    Stores i s { past s 1 with sp := s.sp - 1 } [(stackAddr s.sp, v s)] := by
  obtain ⟨-, -, hexec⟩ := h
  refine ⟨(past s 1).push (v s), hv s ▸ hexec s, ?frame, ?bytes⟩
  case frame =>
    rw [State.push_eq]
    rfl
  case bytes => exact State.push_storedAt (s := past s 1) (v s)

/-- Settles O43: both are one byte long and push, PHP the status byte with the Break bit set. -/
theorem pushInstructionsStoreOneByte : Obligations.PushInstructionsStoreOneByte := by
  have hpha : Implied .pha 0x48 fun s => s.push s.a := ImpliedEffect.pha.isImplied rfl rfl rfl fun _ => rfl
  have hphp : Implied .php 0x08 fun s => s.push (statusByte s.p true) :=
    ImpliedEffect.php.isImplied rfl rfl rfl pushP_eq
  have ⟨encodePha, decodePha, _⟩ := hpha
  have ⟨encodePhp, decodePhp, _⟩ := hphp
  exact ⟨stores_of_implied_push hpha fun _ => rfl, stores_of_implied_push hphp fun _ => rfl,
    encodePha, encodePhp, decodePha, decodePhp⟩

/-- Settles O44: the effect of PLA is a pull to A. -/
theorem plaLoadsThePulledByte : Obligations.PlaLoadsThePulledByte :=
  ImpliedEffect.pla.isImplied rfl rfl rfl pullA_eq

/-! ### CLI, SEI, PLP (R135, R164, R165) -/

theorem setI_eq (v : Bool) (s : State) :
    setI v s = { s with p := { s.p with i := v }, iWindow := some s.p.i } := rfl

/-- Settles O51: each of the three records the I from before beside the flags that it writes. -/
theorem maskInstructionsOpenTheBoundary : Obligations.MaskInstructionsOpenTheBoundary :=
  ⟨ImpliedEffect.cli.isImplied rfl rfl rfl (setI_eq false),
    ImpliedEffect.sei.isImplied rfl rfl rfl (setI_eq true),
    ImpliedEffect.plp.isImplied rfl rfl rfl fun s => by rw [pullP_eq, Flags.ofByte_eq_statusOf]⟩

end Sys2Proof.Machine
end

section
/-! PROOFS about control flow (44_control_flow.md R141 to R152): where the jumps, the call, the return and the branches
go, and that the return undoes the call. -/

namespace Sys2Proof.Machine

open Sys2Proof.Claims

/-! ### JMP (R141, R69) -/

theorem indirectHighAddr_of_pageWrap {s : State} (h : s.params.jmpIndirectPageWrap = true) (ptr : Word) :
    indirectHighAddr s ptr = ptr.extractLsb' 8 8 ++ (ptr.extractLsb' 0 8 + 1#8) := by
  rw [indirectHighAddr, if_pos h, hi8_eq_extractLsb', lo8_eq_extractLsb']
  rfl

theorem indirectHighAddr_of_no_pageWrap {s : State} (h : s.params.jmpIndirectPageWrap = false) (ptr : Word) :
    indirectHighAddr s ptr = ptr + 1 := by
  rw [indirectHighAddr, h]
  rfl

/-- The indirect JMP writes `pc` alone, with the word at the pointer. -/
theorem exec_jmpInd (w : Word) (s : State) :
    exec (.jmpInd w) s =
      .next { s with pc := s.read .pointerHi (indirectHighAddr s w) ++ s.read .pointerLo w } := rfl

/-- Settles O45: the two parts differ in the address of the pointer's high byte. -/
theorem jmpGoesToTheTarget : Obligations.JmpGoesToTheTarget := by
  refine ⟨hasForms_formsOf .jmp, fun w s => rfl, fun w s hwraps => ?samePage, fun w s hwraps => ?nextAddress⟩
  case samePage => rw [exec_jmpInd, indirectHighAddr_of_pageWrap hwraps]
  case nextAddress => rw [exec_jmpInd, indirectHighAddr_of_no_pageWrap hwraps]

/-! ### JSR (R142) -/

/-- A push adds its byte to the writes since `s`. -/
theorem State.push_storedAt_cons {s t : State} {writes : List (Word × Byte)} (h : StoredAt s t writes) (v : Byte)
    (hwf : t.wf = true) (hplatform : t.platform = s.platform) :
    StoredAt s (t.push v) ((stackAddr t.sp, v) :: writes) := by
  intro k b
  rw [State.read_push t v k b hwf, hplatform, h k b]
  rfl

theorem State.push16_storedAt {s : State} (w : Word) (hwf : s.wf = true) :
    StoredAt s (s.push16 w)
      [(stackAddr (s.sp - 1), w.extractLsb' 0 8), (stackAddr s.sp, w.extractLsb' 8 8)] := by
  have hhigh := State.push_storedAt (hi8 w) hwf
  have hboth := State.push_storedAt_cons hhigh (lo8 w) (State.push_wf s _ hwf) (State.push_platform s _)
  rwa [State.push_sp] at hboth

theorem State.push16_frame (s : State) (w : Word) : { s.push16 w with mem := s.mem } = { s with sp := s.sp - 2 } := by
  rw [State.push16_eq, sub_sub]
  rfl

/-- JSR pushes the address of its own last byte and writes `pc`. -/
theorem exec_jsr (w : Word) (s : State) :
    exec (.jsr w) s = .next (((s.advance 3).push16 (s.pc + 2)).setPc w) := by
  have hlast : (s.advance 3).pc - 1 = s.pc + 2 := by rw [State.advance_pc]; bv_omega
  rw [← hlast]
  rfl

/-- Settles O46: the pushed word is the address of JSR's last byte, and its bytes are on the stack by the law of reads
after two pushes. -/
theorem jsrPushesTheReturnAddressLessOne : Obligations.JsrPushesTheReturnAddressLessOne := by
  refine ⟨hasForms_formsOf .jsr, fun w s => ⟨_, exec_jsr w s, ?frame, ?bytes⟩⟩
  case frame =>
    exact congrArg (State.setPc · w) (State.push16_frame (s.advance 3) (s.pc + 2))
  case bytes => exact State.push16_storedAt (s := s.advance 3) (s.pc + 2)

/-! ### RTS (R143) -/

/-- Settles O47: the effect of RTS is two pulls and the word that they make, plus one. -/
theorem rtsReturnsPastThePulledAddress : Obligations.RtsReturnsPastThePulledAddress := by
  refine ImpliedEffect.rts.isImplied rfl rfl rfl fun s => ?effect
  case effect =>
    rw [returnFromSubroutine_eq, add_assoc]
    rfl

theorem stackAddr_inj {sp sp' : Byte} : stackAddr sp = stackAddr sp' ↔ sp = sp' := by
  rw [← BitVec.toNat_inj, stackAddr_toNat, stackAddr_toNat, Nat.add_left_cancel_iff, BitVec.toNat_inj]

/-- Two pulls give back the word whose bytes were stored as two pushes store them. -/
theorem pulled_word_of_storedAt {s t : State} {w : Word} (hsp : t.sp = s.sp - 2)
    (hstored : StoredAt s t [(stackAddr (s.sp - 1), lo8 w), (stackAddr s.sp, hi8 w)])
    (htakesHigh : takesWrite (kindAt s.platform (stackAddr s.sp)) = true)
    (htakesLow : takesWrite (kindAt s.platform (stackAddr (s.sp - 1))) = true) :
    cat (t.read .pull2 (stackAddr (t.sp + 2))) (t.read .pull1 (stackAddr (t.sp + 1))) = w := by
  have hlow : t.read .pull1 (stackAddr (t.sp + 1)) = lo8 w := by
    have htop : t.sp + 1 = s.sp - 1 := by rw [hsp]; bv_omega
    rw [htop, hstored, readOver, if_pos ⟨htakesLow, rfl⟩]
  have hhigh : t.read .pull2 (stackAddr (t.sp + 2)) = hi8 w := by
    have hbottom : t.sp + 2 = s.sp := by rw [hsp, sub_add_cancel]
    have hapart : stackAddr s.sp ≠ stackAddr (s.sp - 1) := by rw [Ne, stackAddr_inj]; bv_omega
    rw [hbottom, hstored, readOver, if_neg fun h => hapart h.2, readOver, if_pos ⟨htakesHigh, rfl⟩]
  rw [hlow, hhigh, cat_hi8_lo8]

/-- Settles O48: by O46 the word that O47 pulls is the one that JSR pushed, and JSR's frame is the rest. -/
theorem rtsAfterJsrReturns : Obligations.RtsAfterJsrReturns := by
  intro w s hwf htakesHigh htakesLow
  obtain ⟨-, hjsr⟩ := jsrPushesTheReturnAddressLessOne
  obtain ⟨-, -, hrts⟩ := rtsReturnsPastThePulledAddress
  obtain ⟨t, hcall, hframe, hstored⟩ := hjsr w s
  have hsp : t.sp = s.sp - 2 := congrArg State.sp hframe
  have hword := pulled_word_of_storedAt hsp (hstored hwf) htakesHigh htakesLow
  refine ⟨t, _, hcall, hrts t, ?returned⟩
  case returned =>
    calc
      _ = { { t with mem := s.mem } with
            sp := t.sp + 2
            pc := cat (t.read .pull2 (stackAddr (t.sp + 2))) (t.read .pull1 (stackAddr (t.sp + 1))) + 1 } := rfl
      _ = { s with sp := s.sp - 2 + 2, pc := s.pc + 2 + 1 } := by rw [hword, hframe, hsp]
      _ = past s 3 := by rw [sub_add_cancel, add_assoc]; rfl

/-! ### The branches (R144 to R152) -/

/-- A mnemonic that takes a displacement runs in one shape alone. -/
theorem RunsAs.eq_branchIf {m : Mnemonic} {b : Byte} {run : State → Result} (h : RunsAs m (.rel b) run) :
    run = branchIf (branchCondition m) b := by
  cases h with
  | branch => rfl

theorem decode_of_encode_eq {i : Instr} {bytes : List Byte} (h : encode i = bytes) : decode bytes = .ok (i, []) := by
  have hdecode := decodeOfEncodeIsTheInstruction i []
  rwa [List.append_nil, h] at hdecode

/-- An instruction with a displacement is its opcode and that byte, and branches on the condition in its mnemonic's row
of the table of R144. -/
theorem branches_of_operand_rel (m : Mnemonic) {i : Byte → Instr} {op : Byte}
    (hi : ∀ b, (i b).mnemonic = m ∧ (i b).operand = .rel b ∧ encode (i b) = [op, b]) :
    Branches i op (branchCondition m) := by
  intro b s
  obtain ⟨hm, ho, hencode⟩ := hi b
  refine ⟨hencode, decode_of_encode_eq hencode, ?answer⟩
  case answer =>
    have hrun : exec (i b) = branchIf (branchCondition m) b := (hm ▸ ho ▸ exec_runsAs (i b)).eq_branchIf
    rw [hrun, branchIf_eq]
    rfl

/-- Settles O49: each branch tests the flag in its row of the table. -/
theorem branchesTestOneFlag : Obligations.BranchesTestOneFlag :=
  ⟨branches_of_operand_rel .bcc fun _ => ⟨rfl, rfl, rfl⟩, branches_of_operand_rel .bcs fun _ => ⟨rfl, rfl, rfl⟩,
    branches_of_operand_rel .beq fun _ => ⟨rfl, rfl, rfl⟩, branches_of_operand_rel .bne fun _ => ⟨rfl, rfl, rfl⟩,
    branches_of_operand_rel .bmi fun _ => ⟨rfl, rfl, rfl⟩, branches_of_operand_rel .bpl fun _ => ⟨rfl, rfl, rfl⟩,
    branches_of_operand_rel .bvc fun _ => ⟨rfl, rfl, rfl⟩, branches_of_operand_rel .bvs fun _ => ⟨rfl, rfl, rfl⟩⟩

end Sys2Proof.Machine
end

section
/-! PROOFS about the flag instructions, NOP, BRK and RTI (45_flags_system.md R160 to R169): the entry to a handler as
three bytes stored and a frame, and the return as the three pulls that undo it. -/

namespace Sys2Proof.Machine

open Sys2Proof.Claims

/-! ### CLC, SEC, CLD, SED, CLV, NOP (R160 to R163, R166, R167) -/

theorem setP_eq (p : Flags) (s : State) : s.setP p = { s with p := p } := rfl

/-- Settles O50: the effect of each writes P alone, and in it one flag. -/
theorem flagInstructionsWriteOneFlag : Obligations.FlagInstructionsWriteOneFlag :=
  ⟨ImpliedEffect.clc.isImplied rfl rfl rfl fun s => setP_eq { s.p with c := false } s,
    ImpliedEffect.sec.isImplied rfl rfl rfl fun s => setP_eq { s.p with c := true } s,
    ImpliedEffect.cld.isImplied rfl rfl rfl fun s => setP_eq { s.p with d := false } s,
    ImpliedEffect.sed.isImplied rfl rfl rfl fun s => setP_eq { s.p with d := true } s,
    ImpliedEffect.clv.isImplied rfl rfl rfl fun s => setP_eq { s.p with v := false } s⟩

/-- Settles O52: the effect of NOP is the identity. -/
theorem nopChangesThePcAlone : Obligations.NopChangesThePcAlone :=
  ImpliedEffect.nop.isImplied rfl rfl rfl fun _ => rfl

/-! ### The entry to a handler (R172) -/

theorem State.interrupt_frame (s : State) (vector : Word) (b : Bool) :
    { s.interrupt vector b with mem := s.mem, pc := s.pc } =
      { s with sp := s.sp - 3, p := s.p.entered s.params.clearDOnInterrupt } := by
  have hsp : s.sp - 1 - 1 - 1 = s.sp - 3 := by bv_omega
  rw [State.interrupt_eq, hsp]

theorem State.interrupt_storedAt {s : State} (vector : Word) (b : Bool) (hwf : s.wf = true) :
    StoredAt s (s.interrupt vector b)
      [(stackAddr (s.sp - 2), statusByte s.p b), (stackAddr (s.sp - 1), lo8 s.pc), (stackAddr s.sp, hi8 s.pc)] := by
  have hwf16 : (s.push16 s.pc).wf = true := State.push_wf _ _ (State.push_wf s _ hwf)
  have hplatform : (s.push16 s.pc).platform = s.platform := by rw [State.push16_eq]
  have hpushed :=
    State.push_storedAt_cons (State.push16_storedAt s.pc hwf) (statusByte s.p b) hwf16 hplatform
  intro k addr
  rw [State.interrupt_read, Flags.toByte_eq_statusByte, hpushed k addr, State.push16_sp]
  rfl

/-- The vector is read after the pushes. -/
theorem State.interrupt_pc (s : State) (vector : Word) (b : Bool) :
    (s.interrupt vector b).pc = (s.interrupt vector b).read16 vector := rfl

theorem State.interrupt_entered (s : State) (vector : Word) (b : Bool) :
    Entered s (s.interrupt vector b) s.pc vector b :=
  ⟨State.interrupt_frame s vector b, State.interrupt_storedAt vector b, State.interrupt_pc s vector b⟩

/-- The return address is named apart from the state, so that an entry does not depend on the `pc` before it. -/
theorem entered_of_entered_setPc {s t : State} {pc ret vector : Word} {b : Bool}
    (h : Entered (s.setPc pc) t ret vector b) : Entered s t ret vector b := by
  obtain ⟨hframe, hstored, hvector⟩ := h
  exact ⟨congrArg (State.setPc · s.pc) hframe, hstored, hvector⟩

/-! ### BRK (R168) -/

/-- BRK skips its padding byte and takes the exception. -/
theorem exec_brk (s : State) : exec .brk s = .next ((s.setPc (s.pc + 2)).interrupt vecIrq true) := by
  have hnext : s.pc + 1 + 1 = s.pc + 2 := add_assoc s.pc 1 1
  rw [← hnext]
  rfl

/-- Settles O53: BRK enters from the state whose `pc` is its return address. -/
theorem brkTakesTheIrqVector : Obligations.BrkTakesTheIrqVector :=
  ⟨rfl, decode_of_encode_eq rfl,
    fun s => ⟨_, exec_brk s, entered_of_entered_setPc (State.interrupt_entered (s.setPc (s.pc + 2)) vecIrq true)⟩⟩

/-! ### RTI (R169) -/

/-- Settles O54: the effect of RTI is three pulls, P from the first and `pc` from the other two. -/
theorem rtiRestoresStatusAndCounter : Obligations.RtiRestoresStatusAndCounter := by
  refine ImpliedEffect.rti.isImplied rfl rfl rfl fun s => ?effect
  case effect =>
    have htwo : s.sp + 1 + 1 = s.sp + 2 := add_assoc s.sp 1 1
    have hthree : s.sp + 2 + 1 = s.sp + 3 := add_assoc s.sp 2 1
    rw [State.returnFromInterrupt_eq, htwo, hthree, Flags.ofByte_eq_statusOf]
    rfl

/-! ### RTI after BRK (R181) -/

theorem readOver_cons_same {s : State} {a : Word} (v : Byte) (rest : List (Word × Byte)) (k : Config.Draw)
    (h : takesWrite (kindAt s.platform a) = true) : readOver s ((a, v) :: rest) k a = v := by
  rw [readOver, if_pos ⟨h, rfl⟩]

theorem readOver_cons_of_ne (s : State) {a b : Word} (v : Byte) (rest : List (Word × Byte)) (k : Config.Draw)
    (h : b ≠ a) : readOver s ((a, v) :: rest) k b = readOver s rest k b := by
  rw [readOver, if_neg fun hab => h hab.2]

section
variable {s t : State} {ret vector : Word} {b : Bool} (h : Entered s t ret vector b)
include h

theorem sp_of_entered : t.sp = s.sp - 3 := by
  obtain ⟨hframe, -, -⟩ := h
  exact congrArg State.sp hframe

/-- The first pull in a handler gives back P. -/
theorem pulled_status_of_entered (hwf : s.wf = true) (htakes : StackTakes s) :
    statusOf (t.read .pull1 (stackAddr (t.sp + 1))) = s.p := by
  have hsp := sp_of_entered h
  obtain ⟨-, hstored, -⟩ := h
  obtain ⟨-, -, htakesStatus⟩ := htakes
  have htop : t.sp + 1 = s.sp - 2 := by rw [hsp]; bv_omega
  have hbyte : t.read .pull1 (stackAddr (t.sp + 1)) = statusByte s.p b := by
    rw [htop, hstored hwf, readOver_cons_same _ _ _ htakesStatus]
  rw [hbyte]
  exact (statusByte_bits s.p b).1

/-- The second and the third pull give back the return address. -/
theorem pulled_pc_of_entered (hwf : s.wf = true) (htakes : StackTakes s) :
    cat (t.read .pull3 (stackAddr (t.sp + 3))) (t.read .pull2 (stackAddr (t.sp + 2))) = ret := by
  have hsp := sp_of_entered h
  obtain ⟨-, hstored, -⟩ := h
  obtain ⟨htakesHigh, htakesLow, -⟩ := htakes
  have hlow : t.read .pull2 (stackAddr (t.sp + 2)) = lo8 ret := by
    have hslot : t.sp + 2 = s.sp - 1 := by rw [hsp]; bv_omega
    have hstatus : stackAddr (s.sp - 1) ≠ stackAddr (s.sp - 2) := by rw [Ne, stackAddr_inj]; bv_omega
    rw [hslot, hstored hwf, readOver_cons_of_ne _ _ _ _ hstatus, readOver_cons_same _ _ _ htakesLow]
  have hhigh : t.read .pull3 (stackAddr (t.sp + 3)) = hi8 ret := by
    have hslot : t.sp + 3 = s.sp := by rw [hsp, sub_add_cancel]
    have hstatus : stackAddr s.sp ≠ stackAddr (s.sp - 2) := by rw [Ne, stackAddr_inj]; bv_omega
    have hlowSlot : stackAddr s.sp ≠ stackAddr (s.sp - 1) := by rw [Ne, stackAddr_inj]; bv_omega
    rw [hslot, hstored hwf, readOver_cons_of_ne _ _ _ _ hstatus, readOver_cons_of_ne _ _ _ _ hlowSlot,
      readOver_cons_same _ _ _ htakesHigh]
  rw [hhigh, hlow, cat_hi8_lo8]

/-- RTI on entry to a handler leaves nothing changed but memory, and resumes at the return address. -/
theorem exec_rti_of_entered (hwf : s.wf = true) (htakes : StackTakes s) :
    ∃ u, exec .rti t = .next u ∧ { u with mem := s.mem } = { s with pc := ret } := by
  have hsp := sp_of_entered h
  have hp := pulled_status_of_entered h hwf htakes
  have hpc := pulled_pc_of_entered h hwf htakes
  obtain ⟨hframe, -, -⟩ := h
  obtain ⟨-, -, hrti⟩ := rtiRestoresStatusAndCounter
  refine ⟨_, hrti t, ?resumed⟩
  case resumed =>
    calc
      _ = { { t with mem := s.mem, pc := s.pc } with
            sp := t.sp + 3
            p := statusOf (t.read .pull1 (stackAddr (t.sp + 1)))
            pc := cat (t.read .pull3 (stackAddr (t.sp + 3))) (t.read .pull2 (stackAddr (t.sp + 2))) } := rfl
      _ = { s with sp := s.sp - 3 + 3, p := s.p, pc := ret } := by rw [hp, hpc, hframe, hsp]
      _ = { s with pc := ret } := by rw [sub_add_cancel]

end

/-- Settles O55: by O53 BRK enters with the address two further, to which RTI returns. -/
theorem rtiAfterBrkResumes : Obligations.RtiAfterBrkResumes := by
  intro s hwf htakes
  obtain ⟨-, -, hbrk⟩ := brkTakesTheIrqVector
  obtain ⟨t, hbreak, hentered⟩ := hbrk s
  obtain ⟨u, hreturn, hresumed⟩ := exec_rti_of_entered hentered hwf htakes
  exact ⟨t, u, hbreak, hreturn, hresumed⟩

end Sys2Proof.Machine
end

section
/-! PROOFS about interrupts (60_exceptions.md R175 to R180): the order at a boundary, the entries that NMI and IRQ make,
which I gates an IRQ, and the SO edge. -/

namespace Sys2Proof.Machine

open Sys2Proof.Claims

/-! ### The order at a boundary (R177, R179) -/

section
variable {s : State} {edge irq : Bool}

theorem State.event_of_reset_line (h : s.input = .lines true edge irq) : s.event = .reset := by
  simp [State.event, h]

theorem State.event_of_nmi (h : s.input = .lines false edge irq) (hnmi : s.nmiPending = true ∨ edge = true) :
    s.event = .nmi := by
  simp [State.event, h, hnmi]

theorem State.event_of_irq_line (h : s.input = .lines false edge irq) (hnmi : ¬(s.nmiPending = true ∨ edge = true))
    (hirq : irq = true ∧ s.effectiveI = false) : s.event = .irq := by
  simp [State.event, h, hnmi, hirq]

theorem State.event_of_no_request (h : s.input = .lines false edge irq)
    (hnmi : ¬(s.nmiPending = true ∨ edge = true)) (hirq : ¬(irq = true ∧ s.effectiveI = false)) :
    s.event = .instruction := by
  simpa [State.event, h, hnmi] using hirq

end

theorem step_of_event_reset {s : State} (h : s.event = .reset) : step s = .next s.arrive.resetEntry := by
  simp [step, h]

/-- Settles O7: in each of the four cases the lines give the boundary its event, and the event the step. -/
theorem boundaryOrderIsResetNmiIrqInstruction : Obligations.BoundaryOrderIsResetNmiIrqInstruction := by
  intro s reset edge irq hinput
  cases reset with
  | true =>
    rw [if_pos rfl]
    exact step_of_event_reset (State.event_of_reset_line hinput)
  | false =>
    rw [if_neg Bool.false_ne_true]
    split_ifs with hnmi hirq
    · exact step_of_event_nmi (State.event_of_nmi hinput hnmi)
    · exact step_of_event_irq (State.event_of_irq_line hinput hnmi hirq)
    · exact step_of_event_instruction (State.event_of_no_request hinput hnmi hirq)

/-! ### NMI and IRQ entry (R172, R175, R176) -/

/-- Settles O10: the step is `Interrupt` at the state whose latch is cleared. -/
theorem nmiEntryTakesTheNmiVector : Obligations.NmiEntryTakesTheNmiVector := by
  intro s edge irq hinput hnmi
  exact ⟨_, step_of_event_nmi (State.event_of_nmi hinput hnmi),
    State.interrupt_entered (s.ready.setNmiPending false) vecNmi false⟩

/-- Settles O11: the step is `Interrupt` at the state in which the processor acts. -/
theorem irqEntryTakesTheIrqVector : Obligations.IrqEntryTakesTheIrqVector := by
  intro s rest hinputs hpending hgate
  have hinput : s.input = .lines false false true := State.input_of_inputs_cons hinputs
  have hnmi : ¬(s.nmiPending = true ∨ false = true) := by simp [hpending]
  exact ⟨_, step_of_event_irq (State.event_of_irq_line hinput hnmi ⟨rfl, hgate⟩),
    State.interrupt_entered s.ready vecIrq false⟩

/-! ### The window of R178 -/

theorem State.effectiveI_of_window {s : State} {old : Bool} (h : s.iWindow = some old) :
    s.effectiveI = if Config.freeBit s.draws .gate then old else s.p.i := by
  simp [State.effectiveI, h]

theorem State.effectiveI_old_or_new {s : State} {old : Bool} (h : s.iWindow = some old) :
    s.effectiveI = old ∨ s.effectiveI = s.p.i := by
  rw [State.effectiveI_of_window h]
  exact ite_eq_or_eq _ old s.p.i

/-- The mnemonics after which the old or the new I gates an IRQ. -/
def windowOpeners : List Mnemonic := [.cli, .sei, .plp]

/-- From the state `s` the mnemonic makes `t`, where a window with the I of `s` is open if the mnemonic opens one, and
that of `s` is as it was if not. -/
def WindowAfter (m : Mnemonic) (s t : State) : Prop :=
  t.iWindow = if m ∈ windowOpeners then some s.p.i else s.iWindow

theorem WindowAfter.of_not_mem {m : Mnemonic} {s t : State} (hm : m ∉ windowOpeners) (h : t.iWindow = s.iWindow) :
    WindowAfter m s t := by
  rw [WindowAfter, if_neg hm, h]

theorem ReadEffect.windowAfter {m : Mnemonic} {f : Byte → State → State} (h : ReadEffect m f) (v : Byte) (s : State) :
    WindowAfter m s (f v s) := by
  cases h with
  | lda | ldx | ldy | cmp | cpx | cpy | and | ora | eor | bit => exact .of_not_mem (by decide) rfl
  | adc => exact .of_not_mem (by decide) (by rw [addWithCarry_eq])
  | sbc => exact .of_not_mem (by decide) (by rw [subtractWithCarry_eq])

theorem StoredRegister.not_mem_windowOpeners {m : Mnemonic} {v : State → Byte} (h : StoredRegister m v) :
    m ∉ windowOpeners := by
  cases h <;> decide

theorem ModifyEffect.not_mem_windowOpeners {m : Mnemonic} {op : Byte → Flags → Byte × Flags} (h : ModifyEffect m op) :
    m ∉ windowOpeners := by
  cases h <;> decide

theorem Branch.not_mem_windowOpeners {m : Mnemonic} (h : Branch m) : m ∉ windowOpeners := by
  cases h <;> decide

theorem ImpliedEffect.windowAfter {m : Mnemonic} {f : State → State} (h : ImpliedEffect m f) (s : State) :
    WindowAfter m s (f s) := by
  cases h with
  | cli | sei | plp => exact (if_pos (by decide)).symm
  | pha | php => exact .of_not_mem (by decide) (State.push_iWindow s _)
  | brk => exact .of_not_mem (by decide) (State.interrupt_iWindow _ _ _)
  | tax | tay | txa | tya | tsx | txs | inx | iny | dex | dey | pla | rts | clc | sec | cld | sed | clv | nop | rti =>
    exact .of_not_mem (by decide) rfl

theorem RunsAs.windowAfter {m : Mnemonic} {o : Operand} {run : State → Result} (h : RunsAs m o run) (s : State) :
    Answers (WindowAfter m s) (run s) := by
  cases h with
  | readImm effect => exact ⟨_, rfl, effect.windowAfter _ (s.advance 2)⟩
  | readMem effect => exact ⟨_, readMem_eq _ _ s, effect.windowAfter _ (s.advance _)⟩
  | storeMem stored =>
    exact ⟨_, stored.storeMem_eq _ s, .of_not_mem stored.not_mem_windowOpeners (State.write_iWindow s _ _)⟩
  | modifyMem effect =>
    exact ⟨_, modifyMem_eq _ _ s, .of_not_mem effect.not_mem_windowOpeners (State.write_iWindow s _ _)⟩
  | modifyAcc effect => exact ⟨_, modifyAcc_eq _ s, .of_not_mem effect.not_mem_windowOpeners rfl⟩
  | implied effect => exact ⟨_, rfl, effect.windowAfter (s.advance 1)⟩
  | branch isBranch => exact ⟨_, branchIf_eq _ _ s, .of_not_mem isBranch.not_mem_windowOpeners rfl⟩
  | jump | jumpIndirect => exact ⟨_, rfl, .of_not_mem (by decide) rfl⟩
  | call => exact ⟨_, rfl, .of_not_mem (by decide) (by rw [callSubroutine_eq]; rfl)⟩

theorem State.resetEntry_iWindow (s : State) : s.resetEntry.iWindow = none := rfl

/-- An NMI entry, an IRQ entry and a RESET close the window. -/
theorem iWindow_of_step_of_entry {s t : State} (hstep : step s = .next t)
    (hevent : s.event = .nmi ∨ s.event = .irq ∨ s.event = .reset) : t.iWindow = none := by
  rcases hevent with hnmi | hirq | hreset
  · cases (step_of_event_nmi hnmi).symm.trans hstep
    exact State.interrupt_iWindow _ _ _
  · cases (step_of_event_irq hirq).symm.trans hstep
    exact State.interrupt_iWindow _ _ _
  · cases (step_of_event_reset hreset).symm.trans hstep
    exact State.resetEntry_iWindow _

/-- Settles O13: the gate reads the window, each operand shape leaves to it what its mnemonic's effect does, and the
processor acts at a state whose window is over. -/
theorem interruptMaskWindow : Obligations.InterruptMaskWindow := by
  refine ⟨fun _ => State.effectiveI_of_no_window, fun _ _ => State.effectiveI_old_or_new, ?opened,
    fun _ _ => iWindow_of_step_of_entry, State.ready_iWindow⟩
  case opened =>
    intro i s t hexec
    exact ((exec_runsAs i).windowAfter s).of_eq_next hexec

/-! ### The SO edge (R180) -/

theorem step_of_input_soEdge {s : State} (h : s.input = .soEdge) : step s = .next s.arrive.soEdge := by
  have he : s.event = .soEdge := by simp [State.event, h]
  simp [step, he]

/-- Settles O14: no NMI edge comes with an SO edge, so all that passing the boundary does is consume the input and make
the free values fresh. -/
theorem soEdgeSetsOnlyV : Obligations.SoEdgeSetsOnlyV := by
  intro s rest hinputs
  have hinput : s.input = .soEdge := State.input_of_inputs_cons hinputs
  have harrive : s.arrive = { s with inputs := rest, draws := s.draws + 1 } := by
    rw [State.arrive_of_no_nmiEdge (by rw [hinput]; rfl), hinputs]
    rfl
  rw [step_of_input_soEdge hinput, harrive]
  rfl

end Sys2Proof.Machine
end

section
/-! PROOFS about reset (70_reset_and_hazards.md R200, R201): what the RESET sequence gives each part of the state for
which the rules state a value, and the RESET step. -/

namespace Sys2Proof.Machine

/-! ### The RESET sequence (R200) -/

section
variable (s : State)

@[simp] theorem State.resetEntry_sp : s.resetEntry.sp = s.params.resetSP := rfl

@[simp] theorem State.resetEntry_nmiPending : s.resetEntry.nmiPending = false := rfl

@[simp] theorem State.resetEntry_p_i : s.resetEntry.p.i = true := rfl

theorem State.resetEntry_p_d_of_clears (h : s.params.clearDOnInterrupt = true) : s.resetEntry.p.d = false := if_pos h

/-- RESET pushes nothing (D22). -/
@[simp] theorem State.resetEntry_mem : s.resetEntry.mem = s.mem := rfl

/-- The vector reads the same before and after: the sequence touches neither memory nor the platform nor the free
values. -/
theorem State.resetEntry_pc : s.resetEntry.pc = s.resetEntry.read16 vecReset := rfl

end

/-! ### The RESET step (R8, R200) -/

/-- Settles O8: the step is the RESET sequence on the state that has passed the boundary. By O18 it keeps the
configuration, and as an entry it closes the window. -/
theorem resetStepLoadsTheVector : Obligations.ResetStepLoadsTheVector := by
  intro s edge irq rest hinputs
  have hevent : s.event = .reset := State.event_of_reset_line (State.input_of_inputs_cons hinputs)
  have hstep : step s = .next s.arrive.resetEntry := step_of_event_reset hevent
  have hwindow : s.arrive.resetEntry.iWindow = none := iWindow_of_step_of_entry hstep (.inr (.inr hevent))
  obtain ⟨hparams, hplatform, -, htail⟩ := noStepChangesTheConfiguration s _ hstep
  have hrest : s.arrive.resetEntry.inputs = rest := by rw [htail, hinputs, List.tail_cons]
  exact ⟨s.arrive.resetEntry, hstep, s.arrive.resetEntry_p_i, s.arrive.resetEntry_sp, s.arrive.resetEntry_nmiPending,
    s.arrive.resetEntry_mem, s.arrive.resetEntry_pc, s.arrive.resetEntry_p_d_of_clears, hwindow, hrest, hparams,
    hplatform⟩

end Sys2Proof.Machine
end
